-- ==== Sys2Proof/Word.lean ====
section
/-! DEFINITION. The words that cross the ports and the unsigned registers of the control core
(spec/00_scope.md R8, R9): `uN` is `BitVec N`, bit 0 the least significant. -/

namespace Sys2Proof

/-- A byte of a word on a narrower bus (20_memory.md R62). -/
abbrev Byte := BitVec 8

/-- The 128-bit command word (30_encoding.md R81). -/
abbrev CommandWord := BitVec 128

/-- A percent, a duty or a unit number as it stands in an 8-bit field (R81, R83). -/
abbrev Percent := BitVec 8

/-- A 32-bit millisecond operand or register (R83). -/
abbrev Millis := BitVec 32

/-- The port format of a rational: a signed 32-bit integer standing for itself over 65536
(00_scope.md R8). -/
abbrev Q16 := BitVec 32

/-- A time stamp or a deadline, `u64` milliseconds since reset (10_state.md R22). -/
abbrev Time := BitVec 64

end Sys2Proof
end

