-- ==== Sys2Proof/Syntax.lean ====
section
/-! DEFINITION. The 34 commands of the control core, one constructor per row of
spec/opcode_table.json, in the table's order (spec/30_encoding.md R84, R85). Operands stand as the
fields of the word hold them (R82, R83); `wellFormed` says which are legal. -/

namespace Sys2Proof

/-- A command of SILVIA-CORE/1. -/
inductive Instr where
  /-- `NOP` (R240). -/
  | nop
  /-- `WC_ENABLE` (R217). -/
  | wcEnable
  /-- `WC_DISABLE` (R218). -/
  | wcDisable
  /-- `WC_START_PUMP percent, valve` (R219). -/
  | wcStartPump (percent : Percent) (valve : Bool)
  /-- `WC_START_SHOT` (R221). -/
  | wcStartShot
  /-- `WC_START_PREHEAT` (R222). -/
  | wcStartPreheat
  /-- `WC_START_STEAM percent, valve` (R223). -/
  | wcStartSteam (percent : Percent) (valve : Bool)
  /-- `WC_OVERRIDE_PUMP percent, duration_ms` (R224). -/
  | wcOverridePump (percent : Percent) (durationMs : Millis)
  /-- `WC_STOP percent, valve, mode` (R225). -/
  | wcStop (percent : Percent) (valve : Bool) (mode : BitVec 3)
  /-- `Q_SHOT_TIME` (R245). -/
  | qShotTime
  /-- `Q_PID_P` (R246). -/
  | qPidP
  /-- `Q_PID_I` (R247). -/
  | qPidI
  /-- `Q_PID_D` (R248). -/
  | qPidD
  /-- `Q_PID_U` (R249). -/
  | qPidU
  /-- `Q_PUMP_DUTY` (R251). -/
  | qPumpDuty
  /-- `Q_STATUS` (R250). -/
  | qStatus
  /-- `TICK_MS` (R241). -/
  | tickMs
  /-- `PO_ENABLE unit` (R110). -/
  | poEnable (unit : BitVec 8)
  /-- `PO_DISABLE unit` (R111). -/
  | poDisable (unit : BitVec 8)
  /-- `PO_ON unit` (R112). -/
  | poOn (unit : BitVec 8)
  /-- `PO_OFF unit` (R113). -/
  | poOff (unit : BitVec 8)
  /-- `PUMP_SET_LEVEL percent` (R121). -/
  | pumpSetLevel (percent : Percent)
  /-- `PUMP_TICK` (R123). -/
  | pumpTick
  /-- `HEATER_SET_DUTY percent` (R135). -/
  | heaterSetDuty (percent : Percent)
  /-- `HEATER_TICK` (R136). -/
  | heaterTick
  /-- `PID_START` (R146). -/
  | pidStart
  /-- `PID_STOP` (R149). -/
  | pidStop
  /-- `PID_SET_TARGET temp, mode` (R147); `steam` is `cmd[16]`. -/
  | pidSetTarget (temp : Q16) (steam : Bool)
  /-- `PID_OVERRIDE value, cycles` (R148). -/
  | pidOverride (value : Q16) (cycles : BitVec 32)
  /-- `PID_CYCLE` (R151). -/
  | pidCycle
  /-- `SHOT_START init_fill_ms, ramp_ms, pause_ms, start_pct, stop_pct` (R176). -/
  | shotStart (initFillMs rampMs pauseMs : Millis) (startPct stopPct : Percent)
  /-- `SHOT_STOP percent, valve` (R183). -/
  | shotStop (percent : Percent) (valve : Bool)
  /-- `PREHEAT_START pump_ms, stop_pump_ms, pause_ms` (R200). -/
  | preheatStart (pumpMs stopPumpMs pauseMs : Millis)
  /-- `PREHEAT_STOP percent, valve` (R206). -/
  | preheatStop (percent : Percent) (valve : Bool)
deriving DecidableEq, Repr

end Sys2Proof
end

