-- ==== Sys2Proof/WellFormed.lean ====
section
/-! DEFINITION. Which commands are legal words: the `constraint` column of spec/opcode_table.json
(spec/30_encoding.md R82, R92 d and e, R96). Every other operand is legal at every value its field
holds; a percent above 100 is not illegal (R92). -/

namespace Sys2Proof

/-- `unit <= 2` for format `U`, `mode <= 5` for format `PVM`, nothing else (R96). -/
def Instr.wellFormed : Instr → Bool
  | .poEnable unit => decide (unit.toNat ≤ 2)
  | .poDisable unit => decide (unit.toNat ≤ 2)
  | .poOn unit => decide (unit.toNat ≤ 2)
  | .poOff unit => decide (unit.toNat ≤ 2)
  | .wcStop _ _ mode => decide (mode.toNat ≤ 5)
  | .nop => true
  | .wcEnable => true
  | .wcDisable => true
  | .wcStartPump _ _ => true
  | .wcStartShot => true
  | .wcStartPreheat => true
  | .wcStartSteam _ _ => true
  | .wcOverridePump _ _ => true
  | .qShotTime => true
  | .qPidP => true
  | .qPidI => true
  | .qPidD => true
  | .qPidU => true
  | .qPumpDuty => true
  | .qStatus => true
  | .tickMs => true
  | .pumpSetLevel _ => true
  | .pumpTick => true
  | .heaterSetDuty _ => true
  | .heaterTick => true
  | .pidStart => true
  | .pidStop => true
  | .pidSetTarget _ _ => true
  | .pidOverride _ _ => true
  | .pidCycle => true
  | .shotStart _ _ _ _ _ => true
  | .shotStop _ _ => true
  | .preheatStart _ _ _ => true
  | .preheatStop _ _ => true

end Sys2Proof
end

