-- ==== Sys2Proof/Decode.lean ====
section
/-! DEFINITION. From command words to commands and back (spec/30_encoding.md R81 to R85, R88, R92,
R96), the little-endian bytes of a word on a narrower bus (20_memory.md R62), and the table of
spec/opcode_table.json as data.

`decode` is total on the 2^128 words and rejects by name; whether a component command is accepted
depends on `COMPONENT_PORT` and is settled where the command runs (Machine/Ops.lean). -/

namespace Sys2Proof

/-- Why a word is no command: the cases (a), (c), (d), (e) of R92, and a byte string of another
length than a word. -/
inductive DecodeError where
  /-- (a) the opcode is in neither table of R84 and R85 -/
  | unassignedOpcode
  /-- (c) a must-be-zero bit is 1 (R88) -/
  | mustBeZero
  /-- (d) format `U` with a unit number above 2 -/
  | unitOutOfRange
  /-- (e) format `PVM` with a mode above 5 -/
  | modeOutOfRange
  /-- the bytes are not the 16 of a word -/
  | wrongLength
deriving DecidableEq, Repr

/-- The seven fields of a command word (R81). -/
structure Fields where
  op : BitVec 8
  a : BitVec 8
  b : BitVec 8
  c : BitVec 8
  m0 : BitVec 32
  m1 : BitVec 32
  m2 : BitVec 32
deriving DecidableEq, Repr

/-- The fields of a word, at the bit positions of R81. -/
def fieldsOf (w : CommandWord) : Fields where
  op := w.extractLsb' 0 8
  a := w.extractLsb' 8 8
  b := w.extractLsb' 16 8
  c := w.extractLsb' 24 8
  m0 := w.extractLsb' 32 32
  m1 := w.extractLsb' 64 32
  m2 := w.extractLsb' 96 32

/-- The word with given fields, the first field lowest (R81). -/
def wordOf (f : Fields) : CommandWord :=
  f.m2 ++ f.m1 ++ f.m0 ++ f.c ++ f.b ++ f.a ++ f.op

/-! ### The formats (R82), each with its must-be-zero fields (R88) -/

/-- Format `N`: nothing but the opcode. -/
def decodeN (f : Fields) (i : Instr) : Except DecodeError Instr :=
  if f.a = 0 ∧ f.b = 0 ∧ f.c = 0 ∧ f.m0 = 0 ∧ f.m1 = 0 ∧ f.m2 = 0 then .ok i
  else .error .mustBeZero

/-- Format `U`: `unit = a`, at most 2. -/
def decodeU (f : Fields) (k : BitVec 8 → Instr) : Except DecodeError Instr :=
  if f.b = 0 ∧ f.c = 0 ∧ f.m0 = 0 ∧ f.m1 = 0 ∧ f.m2 = 0 then
    if f.a.toNat ≤ 2 then .ok (k f.a) else .error .unitOutOfRange
  else .error .mustBeZero

/-- Format `P`: `percent = a`. -/
def decodeP (f : Fields) (k : Percent → Instr) : Except DecodeError Instr :=
  if f.b = 0 ∧ f.c = 0 ∧ f.m0 = 0 ∧ f.m1 = 0 ∧ f.m2 = 0 then .ok (k f.a)
  else .error .mustBeZero

/-- Format `PV`: `percent = a`, `valve = cmd[16]`. -/
def decodePV (f : Fields) (k : Percent → Bool → Instr) : Except DecodeError Instr :=
  if f.b.extractLsb' 1 7 = 0 ∧ f.c = 0 ∧ f.m0 = 0 ∧ f.m1 = 0 ∧ f.m2 = 0 then
    .ok (k f.a (f.b.getLsbD 0))
  else .error .mustBeZero

/-- Format `PVM`: as `PV`, with `mode = cmd[26:24]`, at most 5. -/
def decodePVM (f : Fields) (k : Percent → Bool → BitVec 3 → Instr) :
    Except DecodeError Instr :=
  if f.b.extractLsb' 1 7 = 0 ∧ f.c.extractLsb' 3 5 = 0 ∧ f.m0 = 0 ∧ f.m1 = 0 ∧ f.m2 = 0 then
    if (f.c.extractLsb' 0 3).toNat ≤ 5 then
      .ok (k f.a (f.b.getLsbD 0) (f.c.extractLsb' 0 3))
    else .error .modeOutOfRange
  else .error .mustBeZero

/-- Format `PD`: `percent = a`, `duration_ms = m0`. -/
def decodePD (f : Fields) (k : Percent → Millis → Instr) : Except DecodeError Instr :=
  if f.b = 0 ∧ f.c = 0 ∧ f.m1 = 0 ∧ f.m2 = 0 then .ok (k f.a f.m0) else .error .mustBeZero

/-- Format `TM`: `pid_mode = cmd[16]`, `temp = m0`. -/
def decodeTM (f : Fields) (k : Q16 → Bool → Instr) : Except DecodeError Instr :=
  if f.a = 0 ∧ f.b.extractLsb' 1 7 = 0 ∧ f.c = 0 ∧ f.m1 = 0 ∧ f.m2 = 0 then
    .ok (k f.m0 (f.b.getLsbD 0))
  else .error .mustBeZero

/-- Format `VC`: `value = m0`, `cycles = m1`. -/
def decodeVC (f : Fields) (k : Q16 → BitVec 32 → Instr) : Except DecodeError Instr :=
  if f.a = 0 ∧ f.b = 0 ∧ f.c = 0 ∧ f.m2 = 0 then .ok (k f.m0 f.m1) else .error .mustBeZero

/-- Format `SH`: `start_pct = a`, `stop_pct = b`, three durations. -/
def decodeSH (f : Fields) (k : Millis → Millis → Millis → Percent → Percent → Instr) :
    Except DecodeError Instr :=
  if f.c = 0 then .ok (k f.m0 f.m1 f.m2 f.a f.b) else .error .mustBeZero

/-- Format `PH`: three durations. -/
def decodePH (f : Fields) (k : Millis → Millis → Millis → Instr) : Except DecodeError Instr :=
  if f.a = 0 ∧ f.b = 0 ∧ f.c = 0 then .ok (k f.m0 f.m1 f.m2) else .error .mustBeZero

/-- The opcode map (R84, R85). -/
def decodeFields (f : Fields) : Except DecodeError Instr :=
  match f.op.toNat with
  | 0x00 => decodeN f .nop
  | 0x01 => decodeN f .wcEnable
  | 0x02 => decodeN f .wcDisable
  | 0x03 => decodePV f .wcStartPump
  | 0x04 => decodeN f .wcStartShot
  | 0x05 => decodeN f .wcStartPreheat
  | 0x06 => decodePV f .wcStartSteam
  | 0x07 => decodePD f .wcOverridePump
  | 0x08 => decodePVM f .wcStop
  | 0x10 => decodeN f .qShotTime
  | 0x11 => decodeN f .qPidP
  | 0x12 => decodeN f .qPidI
  | 0x13 => decodeN f .qPidD
  | 0x14 => decodeN f .qPidU
  | 0x15 => decodeN f .qPumpDuty
  | 0x16 => decodeN f .qStatus
  | 0x20 => decodeN f .tickMs
  | 0x80 => decodeU f .poEnable
  | 0x81 => decodeU f .poDisable
  | 0x82 => decodeU f .poOn
  | 0x83 => decodeU f .poOff
  | 0x88 => decodeP f .pumpSetLevel
  | 0x89 => decodeN f .pumpTick
  | 0x8A => decodeP f .heaterSetDuty
  | 0x8B => decodeN f .heaterTick
  | 0x90 => decodeN f .pidStart
  | 0x91 => decodeN f .pidStop
  | 0x92 => decodeTM f .pidSetTarget
  | 0x93 => decodeVC f .pidOverride
  | 0x94 => decodeN f .pidCycle
  | 0xA0 => decodeSH f .shotStart
  | 0xA1 => decodePV f .shotStop
  | 0xB0 => decodePH f .preheatStart
  | 0xB1 => decodePV f .preheatStop
  | _ => .error .unassignedOpcode

/-- The command a word is, or why it is none (R92 a, c, d, e). -/
def decode (w : CommandWord) : Except DecodeError Instr := decodeFields (fieldsOf w)

/-! ### The encoder -/

/-- The opcode of a command (R84, R85). -/
def opcodeOf : Instr → BitVec 8
  | .nop => 0x00#8
  | .wcEnable => 0x01#8
  | .wcDisable => 0x02#8
  | .wcStartPump _ _ => 0x03#8
  | .wcStartShot => 0x04#8
  | .wcStartPreheat => 0x05#8
  | .wcStartSteam _ _ => 0x06#8
  | .wcOverridePump _ _ => 0x07#8
  | .wcStop _ _ _ => 0x08#8
  | .qShotTime => 0x10#8
  | .qPidP => 0x11#8
  | .qPidI => 0x12#8
  | .qPidD => 0x13#8
  | .qPidU => 0x14#8
  | .qPumpDuty => 0x15#8
  | .qStatus => 0x16#8
  | .tickMs => 0x20#8
  | .poEnable _ => 0x80#8
  | .poDisable _ => 0x81#8
  | .poOn _ => 0x82#8
  | .poOff _ => 0x83#8
  | .pumpSetLevel _ => 0x88#8
  | .pumpTick => 0x89#8
  | .heaterSetDuty _ => 0x8A#8
  | .heaterTick => 0x8B#8
  | .pidStart => 0x90#8
  | .pidStop => 0x91#8
  | .pidSetTarget _ _ => 0x92#8
  | .pidOverride _ _ => 0x93#8
  | .pidCycle => 0x94#8
  | .shotStart _ _ _ _ _ => 0xA0#8
  | .shotStop _ _ => 0xA1#8
  | .preheatStart _ _ _ => 0xB0#8
  | .preheatStop _ _ => 0xB1#8

/-- Whether a command belongs to the component group, opcodes 0x80 to 0xFF (R85). -/
def Instr.isComponent (i : Instr) : Bool := decide (0x80 ≤ (opcodeOf i).toNat)

/-- Whether a command is a query, opcodes 0x10 to 0x16: the commands that send a response
(R80 b). -/
def Instr.isQuery (i : Instr) : Bool :=
  decide (0x10 ≤ (opcodeOf i).toNat ∧ (opcodeOf i).toNat ≤ 0x16)

/-- The `b` field that carries a valve or PID-mode flag in `cmd[16]` (R82). -/
def flagField (v : Bool) : BitVec 8 := if v then 1#8 else 0#8

/-- The fields of a command's word: its opcode, its operands, zero elsewhere (R82, R88). -/
def encodeFields (i : Instr) : Fields :=
  let z : Fields := ⟨opcodeOf i, 0, 0, 0, 0, 0, 0⟩
  match i with
  | .nop => z
  | .wcEnable => z
  | .wcDisable => z
  | .wcStartPump percent valve => { z with a := percent, b := flagField valve }
  | .wcStartShot => z
  | .wcStartPreheat => z
  | .wcStartSteam percent valve => { z with a := percent, b := flagField valve }
  | .wcOverridePump percent durationMs => { z with a := percent, m0 := durationMs }
  | .wcStop percent valve mode =>
      { z with a := percent, b := flagField valve, c := mode.setWidth 8 }
  | .qShotTime => z
  | .qPidP => z
  | .qPidI => z
  | .qPidD => z
  | .qPidU => z
  | .qPumpDuty => z
  | .qStatus => z
  | .tickMs => z
  | .poEnable unit => { z with a := unit }
  | .poDisable unit => { z with a := unit }
  | .poOn unit => { z with a := unit }
  | .poOff unit => { z with a := unit }
  | .pumpSetLevel percent => { z with a := percent }
  | .pumpTick => z
  | .heaterSetDuty percent => { z with a := percent }
  | .heaterTick => z
  | .pidStart => z
  | .pidStop => z
  | .pidSetTarget temp steam => { z with b := flagField steam, m0 := temp }
  | .pidOverride value cycles => { z with m0 := value, m1 := cycles }
  | .pidCycle => z
  | .shotStart initFillMs rampMs pauseMs startPct stopPct =>
      { z with a := startPct, b := stopPct, m0 := initFillMs, m1 := rampMs, m2 := pauseMs }
  | .shotStop percent valve => { z with a := percent, b := flagField valve }
  | .preheatStart pumpMs stopPumpMs pauseMs =>
      { z with m0 := pumpMs, m1 := stopPumpMs, m2 := pauseMs }
  | .preheatStop percent valve => { z with a := percent, b := flagField valve }

/-- The word of a command (R81, R82). -/
def encode (i : Instr) : CommandWord := wordOf (encodeFields i)

/-! ### The table of spec/opcode_table.json as data (R96) -/

/-- A row's `constraint` column. -/
inductive OpConstraint where
  /-- no constraint -/
  | none
  /-- `unit <= 2` -/
  | unit
  /-- `mode <= 5` -/
  | mode
deriving DecidableEq, Repr

/-- A row of spec/opcode_table.json. -/
structure OpRow where
  mnemonic : String
  pattern : BitVec 128
  mask : BitVec 128
  constraint : OpConstraint
  component : Bool
deriving DecidableEq, Repr

/-- Whether a row's constraint holds of a word (R82, R96). -/
def OpConstraint.holds (k : OpConstraint) (w : CommandWord) : Bool :=
  match k with
  | .none => true
  | .unit => decide ((w.extractLsb' 8 8).toNat ≤ 2)
  | .mode => decide ((w.extractLsb' 24 3).toNat ≤ 5)

/-- Whether a word is the row's command: `w and mask = match` and the constraint (R96). -/
def OpRow.accepts (r : OpRow) (w : CommandWord) : Bool :=
  decide (w &&& r.mask = r.pattern) && r.constraint.holds w

/-- The host rows of spec/opcode_table.json (R84, R96). -/
def hostRows : List OpRow := [
  ⟨"NOP", 0x00000000000000000000000000000000#128, 0xffffffffffffffffffffffffffffffff#128, .none, false⟩,
  ⟨"WC_ENABLE", 0x00000000000000000000000000000001#128, 0xffffffffffffffffffffffffffffffff#128, .none, false⟩,
  ⟨"WC_DISABLE", 0x00000000000000000000000000000002#128, 0xffffffffffffffffffffffffffffffff#128, .none, false⟩,
  ⟨"WC_START_PUMP", 0x00000000000000000000000000000003#128, 0xfffffffffffffffffffffffffffe00ff#128, .none, false⟩,
  ⟨"WC_START_SHOT", 0x00000000000000000000000000000004#128, 0xffffffffffffffffffffffffffffffff#128, .none, false⟩,
  ⟨"WC_START_PREHEAT", 0x00000000000000000000000000000005#128, 0xffffffffffffffffffffffffffffffff#128, .none, false⟩,
  ⟨"WC_START_STEAM", 0x00000000000000000000000000000006#128, 0xfffffffffffffffffffffffffffe00ff#128, .none, false⟩,
  ⟨"WC_OVERRIDE_PUMP", 0x00000000000000000000000000000007#128, 0xffffffffffffffff00000000ffff00ff#128, .none, false⟩,
  ⟨"WC_STOP", 0x00000000000000000000000000000008#128, 0xfffffffffffffffffffffffff8fe00ff#128, .mode, false⟩,
  ⟨"Q_SHOT_TIME", 0x00000000000000000000000000000010#128, 0xffffffffffffffffffffffffffffffff#128, .none, false⟩,
  ⟨"Q_PID_P", 0x00000000000000000000000000000011#128, 0xffffffffffffffffffffffffffffffff#128, .none, false⟩,
  ⟨"Q_PID_I", 0x00000000000000000000000000000012#128, 0xffffffffffffffffffffffffffffffff#128, .none, false⟩,
  ⟨"Q_PID_D", 0x00000000000000000000000000000013#128, 0xffffffffffffffffffffffffffffffff#128, .none, false⟩,
  ⟨"Q_PID_U", 0x00000000000000000000000000000014#128, 0xffffffffffffffffffffffffffffffff#128, .none, false⟩,
  ⟨"Q_PUMP_DUTY", 0x00000000000000000000000000000015#128, 0xffffffffffffffffffffffffffffffff#128, .none, false⟩,
  ⟨"Q_STATUS", 0x00000000000000000000000000000016#128, 0xffffffffffffffffffffffffffffffff#128, .none, false⟩,
  ⟨"TICK_MS", 0x00000000000000000000000000000020#128, 0xffffffffffffffffffffffffffffffff#128, .none, false⟩]

/-- The component rows of spec/opcode_table.json (R85, R96). -/
def componentRows : List OpRow := [
  ⟨"PO_ENABLE", 0x00000000000000000000000000000080#128, 0xffffffffffffffffffffffffffff00ff#128, .unit, true⟩,
  ⟨"PO_DISABLE", 0x00000000000000000000000000000081#128, 0xffffffffffffffffffffffffffff00ff#128, .unit, true⟩,
  ⟨"PO_ON", 0x00000000000000000000000000000082#128, 0xffffffffffffffffffffffffffff00ff#128, .unit, true⟩,
  ⟨"PO_OFF", 0x00000000000000000000000000000083#128, 0xffffffffffffffffffffffffffff00ff#128, .unit, true⟩,
  ⟨"PUMP_SET_LEVEL", 0x00000000000000000000000000000088#128, 0xffffffffffffffffffffffffffff00ff#128, .none, true⟩,
  ⟨"PUMP_TICK", 0x00000000000000000000000000000089#128, 0xffffffffffffffffffffffffffffffff#128, .none, true⟩,
  ⟨"HEATER_SET_DUTY", 0x0000000000000000000000000000008a#128, 0xffffffffffffffffffffffffffff00ff#128, .none, true⟩,
  ⟨"HEATER_TICK", 0x0000000000000000000000000000008b#128, 0xffffffffffffffffffffffffffffffff#128, .none, true⟩,
  ⟨"PID_START", 0x00000000000000000000000000000090#128, 0xffffffffffffffffffffffffffffffff#128, .none, true⟩,
  ⟨"PID_STOP", 0x00000000000000000000000000000091#128, 0xffffffffffffffffffffffffffffffff#128, .none, true⟩,
  ⟨"PID_SET_TARGET", 0x00000000000000000000000000000092#128, 0xffffffffffffffff00000000fffeffff#128, .none, true⟩,
  ⟨"PID_OVERRIDE", 0x00000000000000000000000000000093#128, 0xffffffff0000000000000000ffffffff#128, .none, true⟩,
  ⟨"PID_CYCLE", 0x00000000000000000000000000000094#128, 0xffffffffffffffffffffffffffffffff#128, .none, true⟩,
  ⟨"SHOT_START", 0x000000000000000000000000000000a0#128, 0x000000000000000000000000ff0000ff#128, .none, true⟩,
  ⟨"SHOT_STOP", 0x000000000000000000000000000000a1#128, 0xfffffffffffffffffffffffffffe00ff#128, .none, true⟩,
  ⟨"PREHEAT_START", 0x000000000000000000000000000000b0#128, 0x000000000000000000000000ffffffff#128, .none, true⟩,
  ⟨"PREHEAT_STOP", 0x000000000000000000000000000000b1#128, 0xfffffffffffffffffffffffffffe00ff#128, .none, true⟩]

/-- The rows of spec/opcode_table.json (R96). -/
def opcodeTable : List OpRow := hostRows ++ componentRows

/-- The mnemonic of a command (R84, R85, R93). -/
def mnemonicOf : Instr → String
  | .nop => "NOP"
  | .wcEnable => "WC_ENABLE"
  | .wcDisable => "WC_DISABLE"
  | .wcStartPump _ _ => "WC_START_PUMP"
  | .wcStartShot => "WC_START_SHOT"
  | .wcStartPreheat => "WC_START_PREHEAT"
  | .wcStartSteam _ _ => "WC_START_STEAM"
  | .wcOverridePump _ _ => "WC_OVERRIDE_PUMP"
  | .wcStop _ _ _ => "WC_STOP"
  | .qShotTime => "Q_SHOT_TIME"
  | .qPidP => "Q_PID_P"
  | .qPidI => "Q_PID_I"
  | .qPidD => "Q_PID_D"
  | .qPidU => "Q_PID_U"
  | .qPumpDuty => "Q_PUMP_DUTY"
  | .qStatus => "Q_STATUS"
  | .tickMs => "TICK_MS"
  | .poEnable _ => "PO_ENABLE"
  | .poDisable _ => "PO_DISABLE"
  | .poOn _ => "PO_ON"
  | .poOff _ => "PO_OFF"
  | .pumpSetLevel _ => "PUMP_SET_LEVEL"
  | .pumpTick => "PUMP_TICK"
  | .heaterSetDuty _ => "HEATER_SET_DUTY"
  | .heaterTick => "HEATER_TICK"
  | .pidStart => "PID_START"
  | .pidStop => "PID_STOP"
  | .pidSetTarget _ _ => "PID_SET_TARGET"
  | .pidOverride _ _ => "PID_OVERRIDE"
  | .pidCycle => "PID_CYCLE"
  | .shotStart _ _ _ _ _ => "SHOT_START"
  | .shotStop _ _ => "SHOT_STOP"
  | .preheatStart _ _ _ => "PREHEAT_START"
  | .preheatStop _ _ => "PREHEAT_STOP"

/-! ### Words as bytes, and the host's entry -/

/-- The 16 bytes of a word on a narrower bus, least significant byte first (20_memory.md R62). -/
def wordBytes (w : CommandWord) : List Byte :=
  (List.range 16).map fun k => w.extractLsb' (8 * k) 8

/-- The number that a little-endian byte string stands for. -/
def bytesToNat : List Byte → Nat
  | [] => 0
  | b :: bs => b.toNat + 256 * bytesToNat bs

/-- The command that 16 bytes stand for, least significant byte first; any other length is refused
by name (R62, R81: there is no second length). -/
def decodeBytes (bs : List Byte) : Except DecodeError Instr :=
  if bs.length = 16 then decode (BitVec.ofNat 128 (bytesToNat bs)) else .error .wrongLength

/-- The word whose low `nbits` bits are those of `w` and whose other bits are 0. -/
def tableWord (nbits w : Nat) : CommandWord := BitVec.ofNat 128 (w % 2 ^ nbits)

/-- The host's entry: the command the decoder reads from the bits `w` of an opcode-table row of
`nbits` bits. The table's rows are whole words, handed over here as their bytes. -/
def decodeTableWord (nbits w : Nat) : Option Instr :=
  (decodeBytes (wordBytes (tableWord nbits w))).toOption

end Sys2Proof
end

