-- ==== Sys2Proof/Config.lean ====
section
/-! DEFINITION. The parameters of the control core (spec/00_scope.md R5 to R7) and the free values.

The document's literals (R5) are named constants with the document's values. The parameters the
document names without a value (R6) and the spec's own parameters (R7) are the record `Cfg`; no
operation writes one (20_memory.md R71). -/

namespace Sys2Proof

/-- The parameters of 00_scope.md R6 and R7. `NOW_BITS` has the one legal value 64 and is the width
of `Time`. -/
structure Cfg where
  /-- `PID_MIN_TEMP`: lowest legal target, and what an illegal target is replaced by (R6). -/
  pidMinTemp : Rat
  /-- `PID_MAX_TEMP`: exclusive upper bound of a legal target (R6). -/
  pidMaxTemp : Rat
  /-- `PID_MIN_OUTPUT`: smallest non-zero heater output (R6). -/
  pidMinOutput : Rat
  /-- `KP_POS` (R6). -/
  kpPos : Rat
  /-- `KP_NEG` (R6). -/
  kpNeg : Rat
  /-- `KI` (R6). -/
  ki : Rat
  /-- `KD` (R6). -/
  kd : Rat
  /-- `SAMPLE_PERIOD_MS`, at least 1 (R6). -/
  samplePeriodMs : Nat
  /-- `BREW_TEMP` (R6). -/
  brewTemp : Rat
  /-- `STEAM_TEMP` (R6). -/
  steamTemp : Rat
  /-- `CFG_SHOT_INIT_FILL_MS` (R6). -/
  shotInitFillMs : Millis
  /-- `CFG_SHOT_RAMP_MS` (R6). -/
  shotRampMs : Millis
  /-- `CFG_SHOT_PAUSE_MS` (R6). -/
  shotPauseMs : Millis
  /-- `CFG_SHOT_START_PCT` (R6). -/
  shotStartPct : Percent
  /-- `CFG_SHOT_STOP_PCT` (R6). -/
  shotStopPct : Percent
  /-- `CFG_PRE_PUMP_MS` (R6). -/
  prePumpMs : Millis
  /-- `CFG_PRE_STOP_PUMP_MS` (R6). -/
  preStopPumpMs : Millis
  /-- `CFG_PRE_PAUSE_MS` (R6). -/
  prePauseMs : Millis
  /-- `PUMP_TICK_MS`, at least 1 (R6). -/
  pumpTickMs : Nat
  /-- `COMPONENT_PORT`: true when opcodes 0x80 to 0xFF are accepted (R7, R272). -/
  componentPort : Bool
  /-- `RAMP_FIRST_OFFSET`, 0 or 10 (R7). -/
  rampFirstOffset : Nat
  /-- `SHOT_RAMP_DIV0_MS` (R7). -/
  shotRampDiv0Ms : Millis
deriving DecidableEq, Repr, Inhabited

/-- The constraints of 00_scope.md R6 and R7 on the parameters. -/
structure Cfg.Legal (c : Cfg) : Prop where
  tempRange : c.pidMinTemp < c.pidMaxTemp
  minOutputNonneg : 0 ≤ c.pidMinOutput
  minOutputLe : c.pidMinOutput ≤ 100
  samplePeriodPos : 1 ≤ c.samplePeriodMs
  pumpTickPos : 1 ≤ c.pumpTickMs
  rampOffset : c.rampFirstOffset = 0 ∨ c.rampFirstOffset = 10

namespace Config

/-! ### The document's literals (R5) -/

/-- `HEATER_SLOTS`: length of the HeaterPWM cycle in ticks. -/
@[simp] def heaterSlots : Nat := 100
/-- `HEATER_TICK_MS`. -/
@[simp] def heaterTickMs : Nat := 10
/-- `PID_FAST_ERR`, degrees. -/
@[simp] def pidFastErr : Rat := 10
/-- `PID_DRY_MARGIN`, degrees. -/
@[simp] def pidDryMargin : Rat := 1 / 2
/-- `PID_DRY_LIMIT`, percent. -/
@[simp] def pidDryLimit : Rat := 5
/-- `OUT_MIN`, percent. -/
@[simp] def outMin : Rat := 0
/-- `OUT_MAX`, percent. -/
@[simp] def outMax : Rat := 100
/-- `SHOT_INIT_FILL_MAX_MS`. -/
@[simp] def shotInitFillMaxMs : Nat := 5000
/-- `SHOT_RAMP_MAX_MS`. -/
@[simp] def shotRampMaxMs : Nat := 10000
/-- `SHOT_PAUSE_MAX_MS`. -/
@[simp] def shotPauseMaxMs : Nat := 10000
/-- `SHOT_RAMP_INC`, percent. -/
@[simp] def shotRampInc : Nat := 10
/-- `SHOT_OVR_VALUE`, percent. -/
@[simp] def shotOvrValue : Rat := 100
/-- `SHOT_OVR_CYCLES`. -/
@[simp] def shotOvrCycles : BitVec 32 := 3#32
/-- `PRE_PUMP_MIN_MS`. -/
@[simp] def prePumpMinMs : Nat := 100
/-- `PRE_PUMP_MAX_MS`. -/
@[simp] def prePumpMaxMs : Nat := 5000
/-- `PRE_STOP_PUMP_MAX_MS`. -/
@[simp] def preStopPumpMaxMs : Nat := 2000
/-- `PRE_PAUSE_MIN_MS`. -/
@[simp] def prePauseMinMs : Nat := 4000
/-- `PRE_PAUSE_MAX_MS`. -/
@[simp] def prePauseMaxMs : Nat := 50000
/-- `FLOW_KEEP_PCT`, percent. -/
@[simp] def flowKeepPct : Percent := 100#8
/-- `FLOW_KEEP_VALVE`: open. -/
@[simp] def flowKeepValve : Bool := true

/-! ### Values no source gives

These constants are opaque: nothing in Lean can evaluate them or prove a value of them. -/

/-- A free value of `w` bits, the `k`-th of a run: what a register holds when the exact result it
should take does not fit in it and no rule states the result (DESIGN CHOICE, notes/assumptions/4.md). -/
opaque freeBits (w : Nat) (k : Nat) : BitVec w

/-- How old a pump override set at `stamp` is at `now`, where the stamp lies in the future: no run
reaches such a state and no rule states the age (DESIGN CHOICE, notes/assumptions/4.md). -/
opaque freeAge (now stamp : Time) : Nat

/-- The raw parameters of R6 of the machine that `State.reset` is the reset of: no source gives one
(93_implementation_defined.md U2, U3; notes/assumptions/1.md). -/
opaque openParams : Cfg

/-- The parameters of the machine that `State.reset` is the reset of: R6 from `openParams`, brought
within the constraints of R6 (every legal record is the image of itself), and the defaults of R7. -/
def cfg : Cfg :=
  { openParams with
    pidMaxTemp :=
      if openParams.pidMinTemp < openParams.pidMaxTemp then openParams.pidMaxTemp
      else openParams.pidMinTemp + 1
    pidMinOutput := min (max openParams.pidMinOutput 0) 100
    samplePeriodMs := max openParams.samplePeriodMs 1
    pumpTickMs := max openParams.pumpTickMs 1
    componentPort := false
    rampFirstOffset := 10
    shotRampDiv0Ms := 0#32 }

end Config
end Sys2Proof
end

