-- ==== Sys2Proof/Machine/State.lean ====
section
/-! DEFINITION. The state of the control core as plain data (spec/10_state.md R20 to R36), its
ports (30_encoding.md R80), the reasons a step can stop, and the state after reset (R36, R290).

The registers are grouped by the component that holds them (R20); the spec's `pump_level` is
`pump.level` here, `shot_timer_armed` is `shot.timer.armed`, and so on. A register whose values are
a set of names is an inductive type, a position or duty with a stated bound is a `Fin`: the values
that R24, R25, R29, R32 and 93 U10 call never held are unrepresentable. -/

namespace Sys2Proof.Machine

/-! ### Enumerations -/

/-- The eleven levels of `pump_level` (R24). -/
inductive PumpLevel where
  | l0 | l10 | l20 | l30 | l40 | l50 | l60 | l70 | l80 | l90 | l100
deriving DecidableEq, Repr

/-- `pid_mode` (R26). -/
inductive PidMode where
  | water | steam
deriving DecidableEq, Repr

/-- `shot_stage` (R29). -/
inductive ShotStage where
  | idle | initFill | ramp | pause | full
deriving DecidableEq, Repr

/-- `pre_stage` (R31). -/
inductive PreStage where
  | off | pumpOn | hold | pause
deriving DecidableEq, Repr

/-- `wc_mode` (R32). -/
inductive WcMode where
  | off | water | waterValve | shot | preheat | steam
deriving DecidableEq, Repr

/-- The three PhaseOutput instances, unit numbers 0, 1, 2 (R23). -/
inductive PoUnit where
  | pump | heater | valve
deriving DecidableEq, Repr

/-- The three sensor ids of the sensor space (20_memory.md R60). -/
inductive SensorId where
  | tA | tB | tAvg
deriving DecidableEq, Repr

/-- The four sticky error flags (R33, 60_exceptions.md R260). -/
inductive ErrFlag where
  | heaterRange | cfgReject | shotTime | illegalCmd
deriving DecidableEq, Repr

/-! ### The components' registers -/

/-- A PhaseOutput: `X_en` and the output pin `X_out` (R23). -/
structure PhaseOutput where
  en : Bool
  out : Bool
deriving DecidableEq, Repr

/-- A one-shot timer: armed bit and absolute deadline (R30, R31). -/
structure Timer where
  armed : Bool
  deadline : Time
deriving DecidableEq, Repr

/-- PumpPWM (R24). -/
structure Pump where
  po : PhaseOutput
  /-- `pump_level`, a u7 that holds one of eleven values -/
  level : PumpLevel
  /-- `pump_pos`, a u4 that is at most 9 -/
  pos : Fin 10
  /-- `pump_last_on`: written on every on tick, read by no rule -/
  lastOn : Time
deriving DecidableEq, Repr

/-- HeaterPWM (R25). -/
structure Heater where
  po : PhaseOutput
  /-- `heater_duty`, a u7 that is at most 100 -/
  duty : Fin 101
  /-- `heater_pos`, a u7 that is at most 99 -/
  pos : Fin 100
deriving DecidableEq, Repr

/-- PIDController (R26, R27, R28). -/
structure Pid where
  en : Bool
  target : Rat
  mode : PidMode
  u1 : Rat
  pv1 : Rat
  pv2 : Rat
  p : Rat
  i : Rat
  d : Rat
  u : Rat
  ovrValue : Rat
  ovrCount : BitVec 32
deriving DecidableEq, Repr

/-- ShotSequencer (R29, R30). -/
structure Shot where
  active : Bool
  stage : ShotStage
  startTime : Time
  stopTime : Time
  initFillMs : Millis
  rampMs : Millis
  pauseMs : Millis
  startPct : Percent
  stopPct : Percent
  curPct : Percent
  timer : Timer
deriving DecidableEq, Repr

/-- PreheatSequencer (R31). -/
structure Preheat where
  stage : PreStage
  pumpMs : Millis
  stopPumpMs : Millis
  pauseMs : Millis
  timer : Timer
deriving DecidableEq, Repr

/-- WaterControl (R32); `ovrActiveMs` is the time the pump override was set. -/
structure WaterControl where
  mode : WcMode
  ovrActive : Bool
  ovrPercent : Percent
  ovrTotalMs : Millis
  ovrActiveMs : Time
deriving DecidableEq, Repr

/-- The sticky error flags (R33). -/
structure Errors where
  heaterRange : Bool
  cfgReject : Bool
  shotTime : Bool
  illegalCmd : Bool
deriving DecidableEq, Repr

/-- The telemetry registers (R34). -/
structure Telemetry where
  p : Rat
  i : Rat
  d : Rat
  u : Rat
  heater : Fin 101
  pump : PumpLevel
  seq : BitVec 32
deriving DecidableEq, Repr

/-! ### The ports -/

/-- The three q16 words on the sensor port (20_memory.md R60, 30_encoding.md R80 c). -/
structure Sensors where
  tA : Q16
  tB : Q16
  tAvg : Q16
deriving DecidableEq, Repr

/-- What the response port sends: a 64-bit word, or a rational whose 64 bits are
`sat_64(floor(value * 65536))` (30_encoding.md R91). -/
inductive Response where
  | word (w : BitVec 64)
  | rational (q : Rat)
deriving DecidableEq, Repr

/-- One strobe from the platform: a command word, with the levels the sensor port presents while it
runs (R80 a, c, R60), or the assertion of the reset input (70_reset_and_hazards.md R290). -/
inductive PortEvent where
  | command (cmd : CommandWord) (sensors : Sensors)
  | reset
deriving DecidableEq, Repr

/-! ### The state -/

/-- Everything the spec gives the machine (R20), its parameters and its ports. The fields `feed` and
`freeIdx` are the model's own (notes/assumptions/2.md and 4.md). -/
structure State where
  /-- the parameters, constant for a run: written by no operation (20_memory.md R71) -/
  cfg : Cfg
  /-- `now` (R22) -/
  now : Time
  pump : Pump
  heater : Heater
  /-- the valve's PhaseOutput; `valve.out = true` is valve open (R23) -/
  valve : PhaseOutput
  pid : Pid
  shot : Shot
  pre : Preheat
  wc : WaterControl
  err : Errors
  tele : Telemetry
  /-- the levels on the sensor port during the current operation (R80 c) -/
  sensors : Sensors
  /-- what the response port sent in the operation just run, none when it sent nothing (R80 b) -/
  rsp : Option Response
  /-- the platform's coming strobes, next first: the environment's script, no queue of the hardware -/
  feed : List PortEvent
  /-- which free value is taken next -/
  freeIdx : Nat
deriving DecidableEq, Repr

/-! ### Why a step stops -/

/-- A step that has no next state because the hardware has none. The hardware's own errors are flags
and stop nothing (60_exceptions.md R266). -/
inductive Fault where
  /-- Raised by `TICK_MS` alone, when the loop of 47_time_and_queries.md R242 does not end: a timer is
  still due after more fires than any terminating run of it has. Safe: the machine stops where the
  hardware would hang (notes/assumptions/5.md). -/
  | timersNeverSettle
deriving DecidableEq, Repr

/-- A step the model is not defined on. -/
inductive Refusal where
  /-- Raised by `exec` for an instruction that has no meaning yet; no arm answers it. Safe. -/
  | notModelled (mnemonic : String)
  /-- Raised by `TICK_MS` alone at `now = 2^64 - 1`: "A model must refuse `TICK_MS`" there
  (47_time_and_queries.md R241, 93_implementation_defined.md U14). Safe: the model stops. -/
  | clockAtEnd
deriving DecidableEq, Repr

/-! ### Reset -/

/-- Both bits of a PhaseOutput after reset. -/
def PhaseOutput.atReset : PhaseOutput := ⟨false, false⟩

/-- A timer after reset. -/
def Timer.atReset : Timer := ⟨false, 0⟩

/-- The state after reset of a machine with parameters `c` (R36, 70_reset_and_hazards.md R290), with
nothing on its ports and nothing handed to it. -/
def State.resetWith (c : Cfg) : State where
  cfg := c
  now := 0
  pump := ⟨PhaseOutput.atReset, .l0, 0, 0⟩
  heater := ⟨PhaseOutput.atReset, 0, 0⟩
  valve := PhaseOutput.atReset
  pid := ⟨false, c.pidMinTemp, .water, 0, 0, 0, 0, 0, 0, 0, 0, 0⟩
  shot := ⟨false, .idle, 0, 0, 0, 0, 0, 0, 0, 0, Timer.atReset⟩
  pre := ⟨.off, 0, 0, 0, Timer.atReset⟩
  wc := ⟨.off, false, 0, 0, 0⟩
  err := ⟨false, false, false, false⟩
  tele := ⟨0, 0, 0, 0, 0, .l0, 0⟩
  sensors := ⟨0, 0, 0⟩
  rsp := none
  feed := []
  freeIdx := 0

/-- The machine right after reset, with the parameters of `Config.cfg`. -/
def State.reset : State := State.resetWith Config.cfg

end Sys2Proof.Machine
end

