-- ==== Sys2Proof/Machine/Operands.lean ====
section
/-! DEFINITION. Operand forms (spec/30_encoding.md R82, R83), the numbers behind the enumerations
(10_state.md R23 to R32), the pump's bucket function (41_pump_pwm.md R120) and the port formats
(00_scope.md R8, 30_encoding.md R91). -/

namespace Sys2Proof.Machine

/-- The rational a q16 word stands for: `sext_32(w) / 65536` (R8, R83). -/
def q16ToRat (w : Q16) : Rat := (w.toInt : Rat) / 65536

/-- The unit a `U`-format operand names: 0 pump, 1 heater, 2 valve (10_state.md R23, R82). -/
def unitOf? (u : BitVec 8) : Option PoUnit :=
  match u.toNat with
  | 0 => some .pump
  | 1 => some .heater
  | 2 => some .valve
  | _ => none

/-- The mode a `PVM`-format operand names (10_state.md R32, R82). -/
def wcModeOf? (m : BitVec 3) : Option WcMode :=
  match m.toNat with
  | 0 => some .off
  | 1 => some .water
  | 2 => some .waterValve
  | 3 => some .shot
  | 4 => some .preheat
  | 5 => some .steam
  | _ => none

/-- The PID mode a `TM`-format flag names: 0 WATER, 1 STEAM (10_state.md R26, R82). -/
def pidModeOf (steam : Bool) : PidMode := if steam then .steam else .water

/-- The percent of a pump level (10_state.md R24). -/
def levelPercent : PumpLevel → Nat
  | .l0 => 0
  | .l10 => 10
  | .l20 => 20
  | .l30 => 30
  | .l40 => 40
  | .l50 => 50
  | .l60 => 60
  | .l70 => 70
  | .l80 => 80
  | .l90 => 90
  | .l100 => 100

/-- The level `10 * n`; 100 from `n = 10` on. -/
def levelOfTens : Nat → PumpLevel
  | 0 => .l0
  | 1 => .l10
  | 2 => .l20
  | 3 => .l30
  | 4 => .l40
  | 5 => .l50
  | 6 => .l60
  | 7 => .l70
  | 8 => .l80
  | 9 => .l90
  | _ => .l100

/-- `bucket`: a requested percent to a level, to the nearest ten with the half going up, 100 above
100 (41_pump_pwm.md R120). -/
def bucket (p : Percent) : PumpLevel :=
  if p.toNat > 100 then .l100 else levelOfTens ((p.toNat + 5) / 10)

/-- `shot_stage` as its u3 (10_state.md R29). -/
def shotStageBits : ShotStage → BitVec 3
  | .idle => 0#3
  | .initFill => 1#3
  | .ramp => 2#3
  | .pause => 3#3
  | .full => 4#3

/-- `pre_stage` as its u2 (10_state.md R31). -/
def preStageBits : PreStage → BitVec 2
  | .off => 0#2
  | .pumpOn => 1#2
  | .hold => 2#2
  | .pause => 3#2

/-- `wc_mode` as its u3 (10_state.md R32). -/
def wcModeBits : WcMode → BitVec 3
  | .off => 0#3
  | .water => 1#3
  | .waterValve => 2#3
  | .shot => 3#3
  | .preheat => 4#3
  | .steam => 5#3

/-- `pid_mode` as its bit (10_state.md R26). -/
def pidModeBit : PidMode → Bool
  | .water => false
  | .steam => true

/-- `sat_64`: an integer clamped to the range of a 64-bit two's-complement word (R91). -/
def sat64 (x : Int) : BitVec 64 := BitVec.ofInt 64 (max (-2 ^ 63) (min x (2 ^ 63 - 1)))

/-- The 64 bits of a response on the port (R91). -/
def portWord : Response → BitVec 64
  | .word w => w
  | .rational q => sat64 (q * 65536).floor

end Sys2Proof.Machine
end

