-- ==== Sys2Proof/Machine/Flags.lean ====
section
/-! DEFINITION. The status flags: setting a sticky error flag, which is all that the hardware has in
the place of taking an exception (spec/60_exceptions.md R266), and the status word that reads every
flag (47_time_and_queries.md R250). -/

namespace Sys2Proof.Machine

/-- The error flags with one more set; no operation clears one (10_state.md R33). -/
def setFlag (e : ErrFlag) (f : Errors) : Errors :=
  match e with
  | .heaterRange => { f with heaterRange := true }
  | .cfgReject => { f with cfgReject := true }
  | .shotTime => { f with shotTime := true }
  | .illegalCmd => { f with illegalCmd := true }

/-- A flag's value. -/
def getFlag (e : ErrFlag) (f : Errors) : Bool :=
  match e with
  | .heaterRange => f.heaterRange
  | .cfgReject => f.cfgReject
  | .shotTime => f.shotTime
  | .illegalCmd => f.illegalCmd

/-- The status word of `Q_STATUS`, highest field first; bits 63:39 and 31 are 0 (R250). -/
def statusWord (s : State) : BitVec 64 :=
  (0#25 ++ BitVec.ofNat 7 s.heater.duty.val ++ 0#1 ++ BitVec.ofNat 7 (levelPercent s.pump.level)
    ++ BitVec.ofBool s.err.illegalCmd ++ BitVec.ofBool s.err.shotTime
    ++ BitVec.ofBool s.err.cfgReject ++ BitVec.ofBool s.err.heaterRange
    ++ wcModeBits s.wc.mode ++ preStageBits s.pre.stage ++ shotStageBits s.shot.stage
    ++ BitVec.ofBool s.wc.ovrActive ++ BitVec.ofBool s.pre.timer.armed
    ++ BitVec.ofBool s.shot.timer.armed ++ BitVec.ofBool s.shot.active
    ++ BitVec.ofBool (pidModeBit s.pid.mode) ++ BitVec.ofBool s.pid.en
    ++ BitVec.ofBool s.valve.out ++ BitVec.ofBool s.heater.po.out ++ BitVec.ofBool s.pump.po.out
    ++ BitVec.ofBool s.valve.en ++ BitVec.ofBool s.heater.po.en ++ BitVec.ofBool s.pump.po.en :
    BitVec (25 + 7 + 1 + 7 + 1 + 1 + 1 + 1 + 3 + 2 + 3 + 1 + 1 + 1 + 1 + 1 + 1 + 1 + 1 + 1 + 1 + 1 + 1))

end Sys2Proof.Machine
end

