-- ==== Sys2Proof/Machine/Ops.lean ====
section
/-! DEFINITION. The shared operations: raising an error, storing a result in a narrower register,
the PhaseOutput procedures (spec/40_phase_output.md), the two setters (41_pump_pwm.md R121,
42_heater_pwm.md R135), reading a sensor and publishing (20_memory.md R60, R64), answering a query
(30_encoding.md R91), accepting a strobe (R80) and reset (70_reset_and_hazards.md R290). -/

namespace Sys2Proof.Machine

/-! ### Taking an exception -/

/-- `raise err_X`: the flag is set and nothing else happens; nothing is saved, no control position
changes, no handler runs and there is no return from one (60_exceptions.md R266, R267). -/
def raise (e : ErrFlag) (s : State) : State := { s with err := setFlag e s.err }

/-- What an illegal command word does (30_encoding.md R92). -/
def illegalWord (s : State) : State := raise .illegalCmd s

/-- A command of the component group: it has its effect `t` when `COMPONENT_PORT = 1` and is an
illegal word otherwise (R85, R92 b, 60_exceptions.md R272). -/
def componentOp (s t : State) : State := if s.cfg.componentPort then t else illegalWord s

/-! ### Storing an exact result in a register -/

/-- Whether an exact result is a `uN` value (00_scope.md R8). -/
def fits (w : Nat) (x : Int) : Bool := decide (0 ≤ x ∧ x < 2 ^ w)

/-- The `uN` register value of an exact result: itself where it fits, a free value where it does not
and no rule states one (DESIGN CHOICE, notes/assumptions/4.md). -/
def narrow (w : Nat) (x : Int) (s : State) : BitVec w :=
  if fits w x then BitVec.ofInt w x else Config.freeBits w s.freeIdx

/-- Moves on to the next free value where the one at hand was used. -/
def spend (w : Nat) (x : Int) (s : State) : State :=
  if fits w x then s else { s with freeIdx := s.freeIdx + 1 }

/-! ### PhaseOutput (40_phase_output.md) -/

/-- A unit's two bits. -/
def getPo (x : PoUnit) (s : State) : PhaseOutput :=
  match x with
  | .pump => s.pump.po
  | .heater => s.heater.po
  | .valve => s.valve

/-- The state with a unit's two bits replaced. -/
def setPo (x : PoUnit) (p : PhaseOutput) (s : State) : State :=
  match x with
  | .pump => { s with pump := { s.pump with po := p } }
  | .heater => { s with heater := { s.heater with po := p } }
  | .valve => { s with valve := p }

/-- `PoEnable` (R110): the output is not changed. -/
def poEnable (x : PoUnit) (s : State) : State := setPo x { getPo x s with en := true } s

/-- `PoDisable` (R111): forces immediate off. -/
def poDisable (x : PoUnit) (s : State) : State := setPo x ⟨false, false⟩ s

/-- `PoOn` (R112): a no-op unless enabled, and not remembered. -/
def poOn (x : PoUnit) (s : State) : State :=
  if (getPo x s).en then setPo x { getPo x s with out := true } s else s

/-- `PoOff` (R113): acts whether or not the unit is enabled. -/
def poOff (x : PoUnit) (s : State) : State := setPo x { getPo x s with out := false } s

/-- `ValveSet` (R114): open is output on. -/
def valveSet (v : Bool) (s : State) : State := if v then poOn .valve s else poOff .valve s

/-! ### The setters -/

/-- `PumpSetLevel` (41_pump_pwm.md R121): stores the bucketed level, enabled or not. -/
def pumpSetLevel (p : Percent) (s : State) : State :=
  { s with pump := { s.pump with level := bucket p } }

/-- `HeaterSetDuty` (42_heater_pwm.md R135): above 100 the duty becomes 0 and the range error is
raised. -/
def heaterSetDuty (d : Nat) (s : State) : State :=
  if h : d ≤ 100 then { s with heater := { s.heater with duty := ⟨d, by omega⟩ } }
  else raise .heaterRange { s with heater := { s.heater with duty := 0 } }

/-! ### The sensor space and the telemetry sink (20_memory.md) -/

/-- `TempRead(id)`: what the sensor port presents for `id` during this operation (R60). A read
changes nothing. -/
def tempRead (id : SensorId) (s : State) : Rat :=
  match id with
  | .tA => q16ToRat s.sensors.tA
  | .tB => q16ToRat s.sensors.tB
  | .tAvg => q16ToRat s.sensors.tAvg

/-- `Publish` (R64): the tuple, and the count of publications modulo 2^32. -/
def publish (p i d u : Rat) (hd : Fin 101) (pd : PumpLevel) (s : State) : State :=
  { s with tele := ⟨p, i, d, u, hd, pd, s.tele.seq + 1⟩ }

/-! ### The response port -/

/-- Sends a response (30_encoding.md R80 b, R91). -/
def respond (r : Response) (s : State) : State := { s with rsp := some r }

/-! ### The platform's strobes -/

/-- The operation about to run: the strobe is taken, the sensor port holds its levels, and the
response port is silent until a query answers (R80, 20_memory.md R60). -/
def accept (x : Sensors) (rest : List PortEvent) (s : State) : State :=
  { s with sensors := x, feed := rest, rsp := none }

/-- No strobe: nothing happens and no response is sent (R80, 70_reset_and_hazards.md R291). -/
def idle (s : State) : State := { s with rsp := none }

/-- The reset input is asserted: every register takes its reset value; the parameters stay, and what
is outside the block (the sensor levels, the coming strobes) is not touched (R290). -/
def resetInput (rest : List PortEvent) (s : State) : State :=
  { State.resetWith s.cfg with sensors := s.sensors, feed := rest, freeIdx := s.freeIdx }

/-- What the platform strobes next, and the strobes after it. -/
def fetch (s : State) : Option (PortEvent × List PortEvent) :=
  match s.feed with
  | [] => none
  | e :: rest => some (e, rest)

/-- The feed with a command word put before everything else, at the sensor levels of the moment. -/
def pushCommand (w : CommandWord) (s : State) : State :=
  { s with feed := .command w s.sensors :: s.feed }

end Sys2Proof.Machine
end

