-- ==== Sys2Proof/Machine/Output.lean ====
section
/-! DEFINITION. The PhaseOutput commands (spec/40_phase_output.md R110 to R113), component group,
format `U`. -/

namespace Sys2Proof.Machine

/-- Runs a procedure on the unit an operand names. A unit number above 2 is an illegal word
(30_encoding.md R92 d), which the decoder has refused already. -/
def onUnit (unit : BitVec 8) (f : PoUnit → State → State) (s : State) : State :=
  match unitOf? unit with
  | some x => f x s
  | none => illegalWord s

/-- `PO_ENABLE unit` (R110). -/
def execPoEnable (unit : BitVec 8) (s : State) : Host.Outcome State Fault Refusal :=
  .next (componentOp s (onUnit unit poEnable s))

/-- `PO_DISABLE unit` (R111). -/
def execPoDisable (unit : BitVec 8) (s : State) : Host.Outcome State Fault Refusal :=
  .next (componentOp s (onUnit unit poDisable s))

/-- `PO_ON unit` (R112). -/
def execPoOn (unit : BitVec 8) (s : State) : Host.Outcome State Fault Refusal :=
  .next (componentOp s (onUnit unit poOn s))

/-- `PO_OFF unit` (R113). -/
def execPoOff (unit : BitVec 8) (s : State) : Host.Outcome State Fault Refusal :=
  .next (componentOp s (onUnit unit poOff s))

end Sys2Proof.Machine
end

