-- ==== Sys2Proof/Machine/Pid.lean ====
section
/-! DEFINITION. PIDController (spec/43_pid.md), in exact rationals (00_scope.md R8). The steps of the
loop are functions of the process value `pv` and the state before the cycle. -/

namespace Sys2Proof.Machine

/-- `SelectPv` (R150): WATER takes the hotter of the two points where it exceeds the average and the
average otherwise; STEAM takes the hotter of the two points. -/
def selectPv (s : State) : Rat :=
  let h := max (tempRead .tA s) (tempRead .tB s)
  let g := tempRead .tAvg s
  match s.pid.mode with
  | .water => if h > g then h else g
  | .steam => h

/-! ### The steps of the loop -/

/-- `Ts`, the sample period in seconds. -/
def sampleSeconds (c : Cfg) : Rat := (c.samplePeriodMs : Rat) / 1000

/-- The error `e` (R152). -/
def pidError (pv : Rat) (s : State) : Rat := s.pid.target - pv

/-- The proportional gain: `KP_POS` if the temperature is falling or the mode is STEAM (R152). -/
def pidGainP (pv : Rat) (s : State) : Rat :=
  if pv < s.pid.pv1 ∨ s.pid.mode = .steam then s.cfg.kpPos else s.cfg.kpNeg

/-- The proportional share `p` (R152). -/
def pidShareP (pv : Rat) (s : State) : Rat := pidGainP pv s * (s.pid.pv1 - pv)

/-- The integral share `i` (R153). -/
def pidShareI (pv : Rat) (s : State) : Rat := s.cfg.ki * sampleSeconds s.cfg * pidError pv s

/-- The derivative share `d` (R154). -/
def pidShareD (pv : Rat) (s : State) : Rat :=
  s.cfg.kd * (2 * s.pid.pv1 - pv - s.pid.pv2) / sampleSeconds s.cfg

/-- The raw output `u` (R155). -/
def pidRaw (pv : Rat) (s : State) : Rat :=
  s.pid.u1 + pidShareP pv s + pidShareI pv s + pidShareD pv s

/-- Step 7a, fast heat-up (R156): strict. -/
def pidFastHeat (pv : Rat) (s : State) (out : Rat) : Rat :=
  if pidError pv s > Config.pidFastErr then Config.outMax else out

/-- Step 7b, dry-overheat clamp (R157): not strict, only lowers. -/
def pidDryClamp (pv : Rat) (s : State) (out : Rat) : Rat :=
  if s.pump.level = .l0 ∧ pv ≥ s.pid.target + Config.pidDryMargin then min out Config.pidDryLimit
  else out

/-- Step 7c, pending override (R158): supersedes 7a and 7b. -/
def pidOverridden (s : State) (out : Rat) : Rat :=
  if s.pid.ovrCount = 0 then out else s.pid.ovrValue

/-- Step 7d, the clamp to the output range (R159). -/
def pidClamp (out : Rat) : Rat := min (max out Config.outMin) Config.outMax

/-- Step 8, the minimum-output threshold (R159). -/
def pidThreshold (c : Cfg) (uc : Rat) : Rat :=
  if 0 < uc ∧ uc ≤ c.pidMinOutput then c.pidMinOutput else uc

/-- The clamped output `uc` of a cycle: steps 7a to 7d on the raw output (R156 to R159). -/
def pidClamped (pv : Rat) (s : State) : Rat :=
  pidClamp (pidOverridden s (pidDryClamp pv s (pidFastHeat pv s (pidRaw pv s))))

/-- The registers a cycle writes in the controller (R158, R160). -/
def pidWriteBack (pv : Rat) (s : State) : Pid :=
  { s.pid with
    pv2 := s.pid.pv1
    pv1 := pv
    u1 := pidClamped pv s
    p := pidShareP pv s
    i := pidShareI pv s
    d := pidShareD pv s
    u := pidRaw pv s
    ovrCount := if s.pid.ovrCount = 0 then 0 else s.pid.ovrCount - 1 }

/-- The integer duty of a cycle: the floor of the thresholded output `ut` (R160). -/
def pidDuty (pv : Rat) (s : State) : Nat := (pidThreshold s.cfg (pidClamped pv s)).floor.toNat

/-- The telemetry tuple of a cycle (R160): the shares, the raw output, and the duty and pump level
as they stand in `t`, after the cycle's write. -/
def pidPublish (pv : Rat) (s t : State) : State :=
  publish (pidShareP pv s) (pidShareI pv s) (pidShareD pv s) (pidRaw pv s) t.heater.duty t.pump.level t

/-- One run of the loop of an enabled controller on the process value `pv` (R152 to R161). -/
def pidCycleAt (pv : Rat) (s : State) : State :=
  pidPublish pv s { heaterSetDuty (pidDuty pv s) s with pid := pidWriteBack pv s }

/-- `PidCycle` (R151): nothing at all while disabled. -/
def pidCycle (s : State) : State := if s.pid.en then pidCycleAt (selectPv s) s else s

/-! ### Start, stop, target, override -/

/-- The history as a start leaves it: both readings `pv`, the previous output 0 (R146). -/
def pidResetHistory (pv : Rat) (s : State) : State :=
  { s with pid := { s.pid with pv1 := pv, pv2 := pv, u1 := 0 } }

/-- Writes `pid_en`. -/
def pidSetEn (on : Bool) (s : State) : State := { s with pid := { s.pid with en := on } }

/-- `PidStart` (R146). -/
def pidStart (s : State) : State :=
  pidSetEn true (heaterSetDuty 0 (pidResetHistory (selectPv s) s))

/-- `PidStop` (R149). -/
def pidStop (s : State) : State := heaterSetDuty 0 (pidSetEn false s)

/-- The target a request leaves: itself in `[PID_MIN_TEMP, PID_MAX_TEMP)`, else `PID_MIN_TEMP`
(R147). -/
def legalTarget (c : Cfg) (t : Rat) : Rat :=
  if t < c.pidMinTemp ∨ t ≥ c.pidMaxTemp then c.pidMinTemp else t

/-- `PidSetTarget` (R147): an out-of-range target becomes `PID_MIN_TEMP`; the mode is stored in any
case. -/
def pidSetTarget (t : Rat) (m : PidMode) (s : State) : State :=
  { s with pid := { s.pid with target := legalTarget s.cfg t, mode := m } }

/-- `PidOverride` (R148): replaces a pending override, enabled or not. -/
def pidOverride (v : Rat) (n : BitVec 32) (s : State) : State :=
  { s with pid := { s.pid with ovrValue := v, ovrCount := n } }

/-! ### The commands -/

/-- `PID_START` (R146). -/
def execPidStart (s : State) : Host.Outcome State Fault Refusal :=
  .next (componentOp s (pidStart s))

/-- `PID_STOP` (R149). -/
def execPidStop (s : State) : Host.Outcome State Fault Refusal :=
  .next (componentOp s (pidStop s))

/-- `PID_SET_TARGET temp, mode` (R147). -/
def execPidSetTarget (temp : Q16) (steam : Bool) (s : State) : Host.Outcome State Fault Refusal :=
  .next (componentOp s (pidSetTarget (q16ToRat temp) (pidModeOf steam) s))

/-- `PID_OVERRIDE value, cycles` (R148). -/
def execPidOverride (value : Q16) (cycles : BitVec 32) (s : State) :
    Host.Outcome State Fault Refusal :=
  .next (componentOp s (pidOverride (q16ToRat value) cycles s))

/-- `PID_CYCLE` (R151). -/
def execPidCycle (s : State) : Host.Outcome State Fault Refusal :=
  .next (componentOp s (pidCycle s))

end Sys2Proof.Machine
end

