-- ==== Sys2Proof/Machine/Shot.lean ====
section
/-! DEFINITION. ShotSequencer (spec/44_shot.md): start, the timer fires of R178 to R182, stop and the
shot time. -/

namespace Sys2Proof.Machine

/-- Arms the Shot timer for an exact deadline (10_state.md R30, 92 D23). A deadline past the end of the
clock is a free value (notes/assumptions/4.md). -/
def shotArmAt (x : Int) (s : State) : State :=
  spend 64 x { s with shot := { s.shot with timer := ⟨true, narrow 64 x s⟩ } }

/-- Arms the Shot timer for `delta` ms from now. -/
def shotArm (delta : Int) (s : State) : State := shotArmAt ((s.now.toNat : Int) + delta) s

/-- Disarms the Shot timer. -/
def shotDisarm (s : State) : State :=
  { s with shot := { s.shot with timer := { s.shot.timer with armed := false } } }

/-- Writes `shot_stage`. -/
def shotEnter (g : ShotStage) (s : State) : State := { s with shot := { s.shot with stage := g } }

/-! ### Start -/

/-- The bounds of the five arguments (R176): `init_fill_ms` in (0, 5000], `ramp_ms` and `pause_ms` at
most 10000, `start_pct <= stop_pct <= 100`. -/
def shotArgsLegal (f r z : Millis) (a b : Percent) : Bool :=
  decide (¬(f.toNat = 0 ∨ f.toNat > Config.shotInitFillMaxMs ∨ r.toNat > Config.shotRampMaxMs
    ∨ z.toNat > Config.shotPauseMaxMs ∨ a.toNat > b.toNat ∨ b.toNat > 100))

/-- Stores the five arguments (R176). -/
def shotLoad (f r z : Millis) (a b : Percent) (s : State) : State :=
  { s with shot := { s.shot with
      initFillMs := f, rampMs := r, pauseMs := z, startPct := a, stopPct := b } }

/-- Marks a shot active and not yet flowing (R176). -/
def shotActivate (s : State) : State :=
  { s with shot := { s.shot with active := true, stage := .initFill, startTime := 0 } }

/-- An accepted start (R176). -/
def shotAccept (f r z : Millis) (a b : Percent) (s : State) : State :=
  shotActivate (shotArm f.toNat (pumpSetLevel 100#8 (valveSet true (shotLoad f r z a b s))))

/-- `ShotStart` (R176): a no-op while active, a configuration rejection out of bounds. -/
def shotStart (f r z : Millis) (a b : Percent) (s : State) : State :=
  if s.shot.active then s
  else if shotArgsLegal f r z a b then shotAccept f r z a b s
  else raise .cfgReject s

/-! ### The ramp interval -/

/-- `10 * ramp / n` to the nearest whole number, half up, as R177 writes it. -/
def rampQuotient (ramp n : Int) : Int := (20 * ramp + n).fdiv (2 * n)

/-- `RampInterval` (R177): `10 * ramp_ms / (stop_pct - start_pct)` to the nearest millisecond, half
up; `SHOT_RAMP_DIV0_MS` where the percents are equal. -/
def rampInterval (s : State) : Int :=
  if s.shot.stopPct = s.shot.startPct then (s.cfg.shotRampDiv0Ms.toNat : Int)
  else rampQuotient s.shot.rampMs.toNat ((s.shot.stopPct.toNat : Int) - s.shot.startPct.toNat)

/-- Arms the Shot timer for the next ramp step. -/
def shotArmRamp (s : State) : State := shotArm (rampInterval s) s

/-! ### The timer fires -/

/-- Stamps the beginning of the flow (R182). -/
def shotStampStart (s : State) : State :=
  { s with shot := { s.shot with startTime := s.now, stopTime := 0 } }

/-- The PID override a shot issues: `(SHOT_OVR_VALUE, SHOT_OVR_CYCLES)` (R179, R182). -/
def shotOverride (s : State) : State := pidOverride Config.shotOvrValue Config.shotOvrCycles s

/-- `ShotEnterFull` (R182); the timer stays disarmed. -/
def shotEnterFull (s : State) : State :=
  shotEnter .full (shotOverride (pumpSetLevel 100#8 (shotStampStart s)))

/-- `ShotAfterRamp` (R180); the valve is not touched. -/
def shotAfterRamp (s : State) : State :=
  if s.shot.pauseMs.toNat > 0 then
    shotArm s.shot.pauseMs.toNat (shotEnter .pause (pumpSetLevel 0#8 s))
  else shotEnterFull s

/-- Writes `shot_cur_pct` with an exact percent (10_state.md R30); above 255 it is a free value
(notes/assumptions/4.md). -/
def shotSetCur (x : Int) (s : State) : State :=
  spend 8 x { s with shot := { s.shot with curPct := narrow 8 x s } }

/-- The INIT_FILL arm (R178). -/
def shotFireInitFill (s : State) : State :=
  shotArmRamp (shotEnter .ramp
    (shotSetCur ((s.shot.startPct.toNat : Int) + s.cfg.rampFirstOffset) (pumpSetLevel s.shot.startPct s)))

/-- Past the first step a ramp step issues the PID override (R179). -/
def shotStepOverride (s : State) : State :=
  if s.shot.curPct.toNat > s.shot.startPct.toNat + s.cfg.rampFirstOffset then shotOverride s else s

/-- The next percent of the ramp (R179). -/
def shotStepCur (s : State) : State := shotSetCur ((s.shot.curPct.toNat : Int) + Config.shotRampInc) s

/-- A RAMP fire that sets the pump (R179). -/
def shotRampStep (s : State) : State :=
  shotArmRamp (shotStepCur (shotStepOverride (pumpSetLevel s.shot.curPct s)))

/-- The RAMP arm (R179). -/
def shotFireRamp (s : State) : State :=
  if s.shot.curPct.toNat > s.shot.stopPct.toNat ∨ s.shot.curPct.toNat ≥ 100 then shotAfterRamp s
  else shotRampStep s

/-- What a fire does in each stage, once the timer is disarmed (R178 to R181); none is armed in IDLE
and FULL. -/
def shotFireStage (s : State) : State :=
  match s.shot.stage with
  | .initFill => shotFireInitFill s
  | .ramp => shotFireRamp s
  | .pause => shotEnterFull s
  | .idle => s
  | .full => s

/-- `ShotTimerFire` (R178): one-shot, a no-op when no shot is active. -/
def shotTimerFire (s : State) : State :=
  if s.shot.active then shotFireStage (shotDisarm s) else shotDisarm s

/-! ### Stop and shot time -/

/-- Marks the shot stopped now (R183). -/
def shotDeactivate (s : State) : State :=
  { s with shot := { s.shot with active := false, stage := .idle, stopTime := s.now } }

/-- `ShotStop` (R183): a no-op unless active; the timer is disarmed first. -/
def shotStop (p : Percent) (v : Bool) (s : State) : State :=
  if s.shot.active then valveSet v (pumpSetLevel p (shotDeactivate (shotDisarm s))) else s

/-- The exact time a shot has been flowing. -/
def shotRunning (s : State) : Int := (s.now.toNat : Int) - (s.shot.startTime.toNat : Int)

/-- `GetShotTime` (R184): the state after it, which differs in a flag at most, and the shot time. -/
def getShotTime (s : State) : State × BitVec 64 :=
  if s.shot.startTime = 0 then (s, 0)
  else if s.shot.stopTime = 0 then (spend 64 (shotRunning s) s, narrow 64 (shotRunning s) s)
  else if s.shot.stopTime.toNat < s.shot.startTime.toNat then (raise .shotTime s, 0)
  else (s, s.shot.stopTime - s.shot.startTime)

/-- `SHOT_START init_fill_ms, ramp_ms, pause_ms, start_pct, stop_pct` (R176). -/
def execShotStart (initFillMs rampMs pauseMs : Millis) (startPct stopPct : Percent) (s : State) :
    Host.Outcome State Fault Refusal :=
  .next (componentOp s (shotStart initFillMs rampMs pauseMs startPct stopPct s))

/-- `SHOT_STOP percent, valve` (R183). -/
def execShotStop (percent : Percent) (valve : Bool) (s : State) :
    Host.Outcome State Fault Refusal :=
  .next (componentOp s (shotStop percent valve s))

end Sys2Proof.Machine
end

