-- ==== Sys2Proof/Machine/Query.lean ====
section
/-! DEFINITION. The query commands (spec/47_time_and_queries.md R245 to R251): each sends one word to
the response port (30_encoding.md R91) and changes no register, but that `Q_SHOT_TIME` can set
`err_shot_time`. -/

namespace Sys2Proof.Machine

/-- `Q_SHOT_TIME` (R245). -/
def execQShotTime (s : State) : Host.Outcome State Fault Refusal :=
  .next (respond (.word (getShotTime s).2) (getShotTime s).1)

/-- `Q_PID_P` (R246). -/
def execQPidP (s : State) : Host.Outcome State Fault Refusal := .next (respond (.rational s.pid.p) s)

/-- `Q_PID_I` (R247). -/
def execQPidI (s : State) : Host.Outcome State Fault Refusal := .next (respond (.rational s.pid.i) s)

/-- `Q_PID_D` (R248). -/
def execQPidD (s : State) : Host.Outcome State Fault Refusal := .next (respond (.rational s.pid.d) s)

/-- `Q_PID_U` (R249). -/
def execQPidU (s : State) : Host.Outcome State Fault Refusal := .next (respond (.rational s.pid.u) s)

/-- `Q_PUMP_DUTY` (R251): the stored level, enabled or not. -/
def execQPumpDuty (s : State) : Host.Outcome State Fault Refusal :=
  .next (respond (.word (BitVec.ofNat 64 (levelPercent s.pump.level))) s)

/-- `Q_STATUS` (R250): reads the flags and does not clear them. -/
def execQStatus (s : State) : Host.Outcome State Fault Refusal :=
  .next (respond (.word (statusWord s)) s)

end Sys2Proof.Machine
end

