-- ==== Sys2Proof/Machine/HeaterPwm.lean ====
section
/-! DEFINITION. HeaterPWM (spec/42_heater_pwm.md): the threshold rule over a free-running 100-slot
counter. -/

namespace Sys2Proof.Machine

/-- `HeaterTick` (R136): the position advances on every tick, enabled or not, and wraps at 100. -/
def heaterTick (s : State) : State :=
  { s with heater := { s.heater with
      po := { s.heater.po with
        out := s.heater.po.en && decide (s.heater.pos.val < s.heater.duty.val) }
      pos := Fin.ofNat 100 (s.heater.pos.val + 1) } }

/-- `HEATER_SET_DUTY duty` (R135). -/
def execHeaterSetDuty (percent : Percent) (s : State) : Host.Outcome State Fault Refusal :=
  .next (componentOp s (heaterSetDuty percent.toNat s))

/-- `HEATER_TICK` (R136). -/
def execHeaterTick (s : State) : Host.Outcome State Fault Refusal :=
  .next (componentOp s (heaterTick s))

end Sys2Proof.Machine
end

