-- ==== Sys2Proof/Machine/PumpPwm.lean ====
section
/-! DEFINITION. PumpPWM (spec/41_pump_pwm.md): the duty patterns of R122 and the tick of R123. -/

namespace Sys2Proof.Machine

/-- `period(L)` of `PUMP_TABLE` (R122). -/
def pumpPeriod : PumpLevel → Nat
  | .l0 => 1
  | .l10 => 10
  | .l20 => 5
  | .l30 => 3
  | .l40 => 5
  | .l50 => 2
  | .l60 => 5
  | .l70 => 10
  | .l80 => 5
  | .l90 => 10
  | .l100 => 1

/-- `ON(L)` of `PUMP_TABLE` (R122). -/
def pumpOnPositions : PumpLevel → List Nat
  | .l0 => []
  | .l10 => [0]
  | .l20 => [0]
  | .l30 => [0]
  | .l40 => [0, 2]
  | .l50 => [0]
  | .l60 => [0, 1, 3]
  | .l70 => [0, 1, 2, 4, 5, 7, 8]
  | .l80 => [0, 1, 2, 3]
  | .l90 => [0, 1, 2, 3, 4, 5, 6, 7, 8]
  | .l100 => [0]

/-- The stored position reduced modulo the period of the level now stored (R123). -/
def pumpPosition (s : State) : Nat := s.pump.pos.val % pumpPeriod s.pump.level

/-- Stamps the time of an on slot (R123). -/
def pumpStamp (s : State) : State := { s with pump := { s.pump with lastOn := s.now } }

/-- The slot at the current position: output on, with the time stamped, or off (R123). -/
def pumpSlot (s : State) : State :=
  if pumpPosition s ∈ pumpOnPositions s.pump.level then pumpStamp (poOn .pump s) else poOff .pump s

/-- Moves to the next position of the pattern (R123). -/
def pumpAdvance (s : State) : State :=
  { s with pump := { s.pump with
      pos := Fin.ofNat 10 ((pumpPosition s + 1) % pumpPeriod s.pump.level) } }

/-- `PumpTick` (R123): disabled, it forces off and does not advance; enabled, the position is reduced
modulo the period of the level now stored, used, then advanced. -/
def pumpTick (s : State) : State :=
  if s.pump.po.en then pumpAdvance (pumpSlot s) else poOff .pump s

/-- `PUMP_SET_LEVEL percent` (R121). -/
def execPumpSetLevel (percent : Percent) (s : State) : Host.Outcome State Fault Refusal :=
  .next (componentOp s (pumpSetLevel percent s))

/-- `PUMP_TICK` (R123). -/
def execPumpTick (s : State) : Host.Outcome State Fault Refusal :=
  .next (componentOp s (pumpTick s))

end Sys2Proof.Machine
end

