-- ==== Sys2Proof/Machine/Preheat.lean ====
section
/-! DEFINITION. PreheatSequencer (spec/45_preheat.md): start, the cyclic timer fires of R202 to R205,
stop. It does not touch the PID controller. -/

namespace Sys2Proof.Machine

/-- Arms the Preheat timer for an exact deadline (10_state.md R31, 92 D23). A deadline past the end of
the clock is a free value (notes/assumptions/4.md). -/
def preArmAt (x : Int) (s : State) : State :=
  spend 64 x { s with pre := { s.pre with timer := ⟨true, narrow 64 x s⟩ } }

/-- Arms the Preheat timer for `delta` ms from now. -/
def preArm (delta : Millis) (s : State) : State :=
  preArmAt ((s.now.toNat : Int) + delta.toNat) s

/-- Disarms the Preheat timer. -/
def preDisarm (s : State) : State :=
  { s with pre := { s.pre with timer := { s.pre.timer with armed := false } } }

/-- Writes `pre_stage`. -/
def preEnter (g : PreStage) (s : State) : State := { s with pre := { s.pre with stage := g } }

/-- The bounds of the three arguments (R200): `pump_ms` in [100, 5000], `stop_pump_ms` at most 2000,
`pause_ms` in [4000, 50000]. -/
def preArgsLegal (a b c : Millis) : Bool :=
  decide (¬(a.toNat < Config.prePumpMinMs ∨ a.toNat > Config.prePumpMaxMs
    ∨ b.toNat > Config.preStopPumpMaxMs ∨ c.toNat < Config.prePauseMinMs
    ∨ c.toNat > Config.prePauseMaxMs))

/-- `PreheatEnterPumpOn` (R201). -/
def preheatEnterPumpOn (s : State) : State :=
  preArm s.pre.pumpMs (preEnter .pumpOn (pumpSetLevel 100#8 (valveSet true s)))

/-- Stores the three arguments (R200). -/
def preLoad (a b c : Millis) (s : State) : State :=
  { s with pre := { s.pre with pumpMs := a, stopPumpMs := b, pauseMs := c } }

/-- `PreheatStart` (R200): a no-op while running, a configuration rejection out of bounds. -/
def preheatStart (a b c : Millis) (s : State) : State :=
  if s.pre.stage ≠ .off then s
  else if preArgsLegal a b c then preheatEnterPumpOn (preLoad a b c s)
  else raise .cfgReject s

/-- The outputs of HOLD and PAUSE: pump 0 %, valve closed (R203, R204). -/
def preRest (s : State) : State := valveSet false (pumpSetLevel 0#8 s)

/-- The PUMP_ON arm: enter HOLD (R203). -/
def preFirePumpOn (s : State) : State := preArm s.pre.stopPumpMs (preEnter .hold (preRest s))

/-- The HOLD arm: enter PAUSE, writing the outputs again (R204). -/
def preFireHold (s : State) : State := preArm s.pre.pauseMs (preEnter .pause (preRest s))

/-- What a fire does in each stage, once the timer is disarmed (R202 to R205); PAUSE closes the
cycle, and no timer is armed in OFF. -/
def preFireStage (s : State) : State :=
  match s.pre.stage with
  | .pumpOn => preFirePumpOn s
  | .hold => preFireHold s
  | .pause => preheatEnterPumpOn s
  | .off => s

/-- `PreheatTimerFire` (R202): one-shot. -/
def preheatTimerFire (s : State) : State := preFireStage (preDisarm s)

/-- `PreheatStop` (R206): unconditional; the timer is cancelled first. -/
def preheatStop (p : Percent) (v : Bool) (s : State) : State :=
  valveSet v (pumpSetLevel p (preEnter .off (preDisarm s)))

/-- `PREHEAT_START pump_ms, stop_pump_ms, pause_ms` (R200). -/
def execPreheatStart (pumpMs stopPumpMs pauseMs : Millis) (s : State) :
    Host.Outcome State Fault Refusal :=
  .next (componentOp s (preheatStart pumpMs stopPumpMs pauseMs s))

/-- `PREHEAT_STOP percent, valve` (R206). -/
def execPreheatStop (percent : Percent) (valve : Bool) (s : State) :
    Host.Outcome State Fault Refusal :=
  .next (componentOp s (preheatStop percent valve s))

end Sys2Proof.Machine
end

