-- ==== Sys2Proof/Machine/Water.lean ====
section
/-! DEFINITION. WaterControl (spec/46_watercontrol.md): the arbiter `WcStop` (R216) and the eight host
operations (R217 to R225). -/

namespace Sys2Proof.Machine

/-- The time elapsed since the pump override was set (R216); a free value for a stamp in the future
(notes/assumptions/4.md). -/
def overrideAge (s : State) : Nat :=
  if s.wc.ovrActiveMs.toNat ≤ s.now.toNat then s.now.toNat - s.wc.ovrActiveMs.toNat
  else Config.freeAge s.now s.wc.ovrActiveMs

/-- Whether the pump override wins: it is active and younger than its duration, strictly, so one of
duration 0 never wins (R216). -/
def overrideWins (s : State) : Bool :=
  s.wc.ovrActive && decide (overrideAge s < s.wc.ovrTotalMs.toNat)

/-- The percent a stop leaves on the pump (R216). -/
def effectivePercent (p : Percent) (s : State) : Percent :=
  if overrideWins s then s.wc.ovrPercent else p

/-- Clears the pump override where it does not win (R216). -/
def expireOverride (s : State) : State :=
  if overrideWins s then s
  else { s with wc := { s.wc with ovrActive := false, ovrPercent := 0, ovrTotalMs := 0, ovrActiveMs := 0 } }

/-- Writes `wc_mode`. -/
def setWcMode (m : WcMode) (s : State) : State := { s with wc := { s.wc with mode := m } }

/-- Stops both sequencers and leaves the pump and the valve as asked (R216). -/
def stopSequencers (p : Percent) (v : Bool) (s : State) : State :=
  valveSet v (pumpSetLevel p (preheatStop p v (shotStop p v s)))

/-- `WcStop` (R216): both sequencers are stopped in both branches, with the effective percent. -/
def wcStop (p : Percent) (v : Bool) (m : WcMode) (s : State) : State :=
  setWcMode m (stopSequencers (effectivePercent p s) v (expireOverride s))

/-- Enables the three units (R217, 92 D22 b). -/
def enableUnits (s : State) : State := poEnable .valve (poEnable .heater (poEnable .pump s))

/-- Disables the three units (R218). -/
def disableUnits (s : State) : State := poDisable .valve (poDisable .heater (poDisable .pump s))

/-- Back to the brew target (R220). -/
def brewTarget (s : State) : State := pidSetTarget s.cfg.brewTemp .water s

/-- `WC_ENABLE` (R217). -/
def execWcEnable (s : State) : Host.Outcome State Fault Refusal :=
  .next (enableUnits (pidStart (brewTarget (wcStop 0#8 false .off s))))

/-- `WC_DISABLE` (R218). -/
def execWcDisable (s : State) : Host.Outcome State Fault Refusal :=
  .next (disableUnits (pidStop (wcStop 0#8 false .off s)))

/-- `WC_START_PUMP percent, valve` (R219). -/
def execWcStartPump (percent : Percent) (valve : Bool) (s : State) :
    Host.Outcome State Fault Refusal :=
  .next (brewTarget (wcStop percent valve (if valve then .waterValve else .water) s))

/-- The flow-preserving stop that begins a change of mode (R221; `FLOW_KEEP_PCT`,
`FLOW_KEEP_VALVE`). -/
def flowKeepStop (m : WcMode) (s : State) : State :=
  wcStop Config.flowKeepPct Config.flowKeepValve m s

/-- `ShotStart` with the configured arguments (R221). -/
def shotStartConfigured (s : State) : State :=
  shotStart s.cfg.shotInitFillMs s.cfg.shotRampMs s.cfg.shotPauseMs s.cfg.shotStartPct
    s.cfg.shotStopPct s

/-- `PreheatStart` with the configured arguments (R222). -/
def preheatStartConfigured (s : State) : State :=
  preheatStart s.cfg.prePumpMs s.cfg.preStopPumpMs s.cfg.prePauseMs s

/-- `WC_START_SHOT` (R221): a no-op if the mode is SHOT already. -/
def execWcStartShot (s : State) : Host.Outcome State Fault Refusal :=
  .next (if s.wc.mode = .shot then s
    else shotStartConfigured (brewTarget (flowKeepStop .shot s)))

/-- `WC_START_PREHEAT` (R222): a no-op if the mode is PREHEAT already. -/
def execWcStartPreheat (s : State) : Host.Outcome State Fault Refusal :=
  .next (if s.wc.mode = .preheat then s
    else preheatStartConfigured (brewTarget (flowKeepStop .preheat s)))

/-- `WC_START_STEAM percent, valve` (R223): a no-op if the mode is STEAM already. -/
def execWcStartSteam (percent : Percent) (valve : Bool) (s : State) :
    Host.Outcome State Fault Refusal :=
  .next (if s.wc.mode = .steam then s
    else pidSetTarget s.cfg.steamTemp .steam
      (valveSet valve (pumpSetLevel percent (flowKeepStop .steam s))))

/-- `WC_OVERRIDE_PUMP percent, duration_ms` (R224): a new override replaces the old and sets the pump
at once. -/
def execWcOverridePump (percent : Percent) (durationMs : Millis) (s : State) :
    Host.Outcome State Fault Refusal :=
  .next (pumpSetLevel percent { s with wc := { s.wc with
    ovrActive := true, ovrPercent := percent, ovrTotalMs := durationMs, ovrActiveMs := s.now } })

/-- `WC_STOP percent, valve, mode` (R225). A mode of 6 or 7 is an illegal word (30_encoding.md R92 e),
which the decoder has refused already. -/
def execWcStop (percent : Percent) (valve : Bool) (mode : BitVec 3) (s : State) :
    Host.Outcome State Fault Refusal :=
  .next (match wcModeOf? mode with
    | some m => wcStop percent valve m s
    | none => illegalWord s)

end Sys2Proof.Machine
end

