-- ==== Sys2Proof/Machine/TimeBase.lean ====
section
/-! DEFINITION. The time base (spec/47_time_and_queries.md R240 to R243): `NOP`, and `TICK_MS`, the
passing of one millisecond, which runs every internal event in a fixed order. -/

namespace Sys2Proof.Machine

/-- The Shot timer is due (R242). -/
def shotDue (s : State) : Bool :=
  s.shot.timer.armed && decide (s.shot.timer.deadline.toNat ≤ s.now.toNat)

/-- The Preheat timer is due (R242). -/
def preDue (s : State) : Bool :=
  s.pre.timer.armed && decide (s.pre.timer.deadline.toNat ≤ s.now.toNat)

/-- More fires than any run of the loop of R242 that ends: R242 derives at most 14 in the states a run
reaches; 16 is 13 of the Shot timer (INIT_FILL, 11 RAMP, PAUSE) and 3 of the Preheat timer
(notes/assumptions/5.md). -/
def timerFires : Nat := 16

/-- `RunDueTimers` (R242) with at most `n` fires, the Shot timer served first; none when a timer is
still due after them. -/
def runDueTimers : Nat → State → Option State
  | 0, s => if shotDue s || preDue s then none else some s
  | n + 1, s =>
    if shotDue s then runDueTimers n (shotTimerFire s)
    else if preDue s then runDueTimers n (preheatTimerFire s)
    else some s

/-- The heater tick, every `HEATER_TICK_MS` (R241). -/
def runHeaterTick (s : State) : State :=
  if s.now.toNat % Config.heaterTickMs = 0 then heaterTick s else s

/-- The pump tick, every `PUMP_TICK_MS` (R241); a tick writes the pump's registers alone (R123). -/
def runPumpTick (s : State) : State :=
  { s with pump := if s.now.toNat % s.cfg.pumpTickMs = 0 then (pumpTick s).pump else s.pump }

/-- The interrupt-context events of a millisecond: heater tick, then pump tick (R241). -/
def runTicks (s : State) : State := runPumpTick (runHeaterTick s)

/-- The PID period: a cycle at every multiple of `SAMPLE_PERIOD_MS` (R241, R243). -/
def runPidPeriod (s : State) : State :=
  if s.now.toNat % s.cfg.samplePeriodMs = 0 then pidCycle s else s

/-- One more millisecond since reset (10_state.md R22). -/
def advanceClock (s : State) : State := { s with now := s.now + 1 }

/-- `NOP` (R240). -/
def execNop (s : State) : Host.Outcome State Fault Refusal := .next s

/-- `TICK_MS` (R241): refused at the last value of the clock, as R241 asks of a model. -/
def execTickMs (s : State) : Host.Outcome State Fault Refusal :=
  if s.now.toNat + 1 = 2 ^ 64 then .refused .clockAtEnd
  else
    match runDueTimers timerFires (runTicks (advanceClock s)) with
    | some t => .next (runPidPeriod t)
    | none => .fault .timersNeverSettle

end Sys2Proof.Machine
end

