-- ==== Sys2Proof/Machine/Dispatch.lean ====
section
/-! DEFINITION. Each command's meaning, one arm per constructor of Instr. -/

namespace Sys2Proof.Machine

def exec (i : Instr) (s : State) : Host.Outcome State Fault Refusal :=
  match i with
  | .nop => Sys2Proof.Machine.execNop s
  | .wcEnable => Sys2Proof.Machine.execWcEnable s
  | .wcDisable => Sys2Proof.Machine.execWcDisable s
  | .wcStartPump percent valve => Sys2Proof.Machine.execWcStartPump percent valve s
  | .wcStartShot => Sys2Proof.Machine.execWcStartShot s
  | .wcStartPreheat => Sys2Proof.Machine.execWcStartPreheat s
  | .wcStartSteam percent valve => Sys2Proof.Machine.execWcStartSteam percent valve s
  | .wcOverridePump percent durationMs => Sys2Proof.Machine.execWcOverridePump percent durationMs s
  | .wcStop percent valve mode => Sys2Proof.Machine.execWcStop percent valve mode s
  | .qShotTime => Sys2Proof.Machine.execQShotTime s
  | .qPidP => Sys2Proof.Machine.execQPidP s
  | .qPidI => Sys2Proof.Machine.execQPidI s
  | .qPidD => Sys2Proof.Machine.execQPidD s
  | .qPidU => Sys2Proof.Machine.execQPidU s
  | .qPumpDuty => Sys2Proof.Machine.execQPumpDuty s
  | .qStatus => Sys2Proof.Machine.execQStatus s
  | .tickMs => Sys2Proof.Machine.execTickMs s
  | .poEnable unit => Sys2Proof.Machine.execPoEnable unit s
  | .poDisable unit => Sys2Proof.Machine.execPoDisable unit s
  | .poOn unit => Sys2Proof.Machine.execPoOn unit s
  | .poOff unit => Sys2Proof.Machine.execPoOff unit s
  | .pumpSetLevel percent => Sys2Proof.Machine.execPumpSetLevel percent s
  | .pumpTick => Sys2Proof.Machine.execPumpTick s
  | .heaterSetDuty percent => Sys2Proof.Machine.execHeaterSetDuty percent s
  | .heaterTick => Sys2Proof.Machine.execHeaterTick s
  | .pidStart => Sys2Proof.Machine.execPidStart s
  | .pidStop => Sys2Proof.Machine.execPidStop s
  | .pidSetTarget temp steam => Sys2Proof.Machine.execPidSetTarget temp steam s
  | .pidOverride value cycles => Sys2Proof.Machine.execPidOverride value cycles s
  | .pidCycle => Sys2Proof.Machine.execPidCycle s
  | .shotStart initFillMs rampMs pauseMs startPct stopPct => Sys2Proof.Machine.execShotStart initFillMs rampMs pauseMs startPct stopPct s
  | .shotStop percent valve => Sys2Proof.Machine.execShotStop percent valve s
  | .preheatStart pumpMs stopPumpMs pauseMs => Sys2Proof.Machine.execPreheatStart pumpMs stopPumpMs pauseMs s
  | .preheatStop percent valve => Sys2Proof.Machine.execPreheatStop percent valve s

end Sys2Proof.Machine
end

