-- ==== Sys2Proof/Machine/Step.lean ====
section
/-! DEFINITION. One step: the platform's next strobe (spec/30_encoding.md R80) taken whole, as one
atomic operation (20_memory.md R66). -/

namespace Sys2Proof.Machine

/-- With no strobe the block idles. A command word runs with the sensor levels it came with; a word
that is no command is illegal (R92); the reset input resets (R290). -/
def step (s : State) : Host.Outcome State Fault Refusal :=
  match fetch s with
  | none => .next (idle s)
  | some (.reset, rest) => .next (resetInput rest s)
  | some (.command w x, rest) =>
    match decode w with
    | .ok i => exec i (accept x rest s)
    | .error _ => .next (illegalWord (accept x rest s))

/-- The state with an opcode-table word of `nbits` bits as the next strobe: what a platform does to
run that command next (notes/assumptions/2.md). -/
def State.withFetchWord (s : State) (nbits w : Nat) : State := pushCommand (tableWord nbits w) s

end Sys2Proof.Machine
end

