-- ==== Sys2Proof/Safety.lean ====
section
/-! DEFINITION. What counts as a good state of the control core: the invariants that spec/10_state.md
states with each register, the arbitration invariant of 46_watercontrol.md R230, and the room the
clock must have left for the rules to be stated at all (10_state.md R22). -/

namespace Sys2Proof.Machine

/-- The invariants of 10_state.md R23 to R33 and the bounds the accepted arguments keep (44_shot.md
R176, R185 d; 45_preheat.md R200, R207). They hold of registers one by one, also under component
commands (70_reset_and_hazards.md R314). -/
structure RegInv (s : State) : Prop where
  /-- the parameters are legal (00_scope.md R6, R7) -/
  legal : s.cfg.Legal
  /-- a disabled unit is off (R23) -/
  pumpGate : s.pump.po.en = false → s.pump.po.out = false
  heaterGate : s.heater.po.en = false → s.heater.po.out = false
  valveGate : s.valve.en = false → s.valve.out = false
  /-- the target stands in its interval (R26) -/
  targetLow : s.cfg.pidMinTemp ≤ s.pid.target
  targetHigh : s.pid.target < s.cfg.pidMaxTemp
  /-- the previous output stands in the output range (R27) -/
  u1Low : 0 ≤ s.pid.u1
  u1High : s.pid.u1 ≤ 100
  /-- a shot is active exactly outside IDLE (R29) -/
  shotStage : s.shot.active = true ↔ s.shot.stage ≠ .idle
  /-- the Shot timer is armed exactly in INIT_FILL, RAMP and PAUSE (R185 d) -/
  shotTimer : s.shot.timer.armed = true ↔
    (s.shot.stage = .initFill ∨ s.shot.stage = .ramp ∨ s.shot.stage = .pause)
  /-- the Preheat timer is armed exactly outside OFF (R31) -/
  preTimer : s.pre.timer.armed = true ↔ s.pre.stage ≠ .off
  /-- the ramp percents are in order and at most 100 (R30) -/
  rampOrder : s.shot.startPct.toNat ≤ s.shot.stopPct.toNat
  rampTop : s.shot.stopPct.toNat ≤ 100
  /-- the ramp position is at most 110 (R30) -/
  curBound : s.shot.curPct.toNat ≤ 110
  /-- the stored shot durations are within the bounds of R176 -/
  fillBound : s.shot.initFillMs.toNat ≤ 5000
  rampBound : s.shot.rampMs.toNat ≤ 10000
  pauseBound : s.shot.pauseMs.toNat ≤ 10000
  /-- the durations of a running preheat are within the bounds of R200 -/
  preBounds : s.pre.stage ≠ .off →
    100 ≤ s.pre.pumpMs.toNat ∧ s.pre.pumpMs.toNat ≤ 5000 ∧ s.pre.stopPumpMs.toNat ≤ 2000 ∧
    4000 ≤ s.pre.pauseMs.toNat ∧ s.pre.pauseMs.toNat ≤ 50000
  /-- stamps lie in the past (R22, R29, R32) -/
  startPast : s.shot.startTime.toNat ≤ s.now.toNat
  stopPast : s.shot.stopTime.toNat ≤ s.now.toNat
  overridePast : s.wc.ovrActiveMs.toNat ≤ s.now.toNat
  /-- a stopped shot stopped no earlier than it began to flow (44_shot.md R184) -/
  timesOrdered : s.shot.stopTime ≠ 0 → s.shot.startTime.toNat ≤ s.shot.stopTime.toNat
  /-- a flowing shot has a start stamp that is not the sentinel 0 (R182, R310) -/
  fullStamped : s.shot.stage = .full → s.shot.startTime ≠ 0

/-- The arbitration invariant (10_state.md R32, 46_watercontrol.md R230 b): a running sequencer is
the one the mode names, so at most one runs (`OneSequencer.exclusive` in Laws/Safety.lean). -/
structure OneSequencer (s : State) : Prop where
  shotMode : s.shot.active = true → s.wc.mode = .shot
  preheatMode : s.pre.stage ≠ .off → s.wc.mode = .preheat

/-- The clock is further from its end than any interval an operation can arm (all are below 2^32 ms):
every rule is stated for such runs (10_state.md R22). -/
def ClockRoom (s : State) : Prop := s.now.toNat + 2 ^ 33 < 2 ^ 64

end Sys2Proof.Machine
end

