-- ==== Sys2Proof/Certificates/Slice0/Obligations.lean ====
section
/-! DEFINITION. The statements about the control core, from the numbered rules of spec/.

The vocabulary below (namespace `Spec`) says in closed form what the rules say, without the machine's
own procedures; a statement about an instruction is an equation `exec i s = .next t` with `t` written
out as a record, so everything `t` does not mention is unchanged: that equation is the instruction's
frame. There is no byte-addressable memory (20_memory.md R62), so no frame speaks of one. -/

namespace Sys2Proof.Spec
open Sys2Proof.Machine

/-! ### Values -/

/-- The rational of a q16 word (00_scope.md R8). -/
def ofQ16 (w : Q16) : Rat := (w.toInt : Rat) / 65536

/-- The process value (43_pid.md R150): WATER the hottest of all three, STEAM of the two points. -/
def processValue (m : PidMode) (x : Sensors) : Rat :=
  match m with
  | .water => max (max (ofQ16 x.tA) (ofQ16 x.tB)) (ofQ16 x.tAvg)
  | .steam => max (ofQ16 x.tA) (ofQ16 x.tB)

/-- The target a request leaves (43_pid.md R147). -/
def targetAfter (c : Cfg) (t : Rat) : Rat :=
  if c.pidMinTemp ≤ t ∧ t < c.pidMaxTemp then t else c.pidMinTemp

/-- The number of a unit (10_state.md R23). -/
def unitNumber : PoUnit → BitVec 8
  | .pump => 0#8
  | .heater => 1#8
  | .valve => 2#8

/-- The number of a WaterControl mode (10_state.md R32). -/
def modeNumber : WcMode → BitVec 3
  | .off => 0#3
  | .water => 1#3
  | .waterValve => 2#3
  | .shot => 3#3
  | .preheat => 4#3
  | .steam => 5#3

/-- `PUMP_TABLE`: the period and the on positions of a level (41_pump_pwm.md R122). -/
def pumpTable : PumpLevel → Nat × List Nat
  | .l0 => (1, [])
  | .l10 => (10, [0])
  | .l20 => (5, [0])
  | .l30 => (3, [0])
  | .l40 => (5, [0, 2])
  | .l50 => (2, [0])
  | .l60 => (5, [0, 1, 3])
  | .l70 => (10, [0, 1, 2, 4, 5, 7, 8])
  | .l80 => (5, [0, 1, 2, 3])
  | .l90 => (10, [0, 1, 2, 3, 4, 5, 6, 7, 8])
  | .l100 => (1, [0])

/-- A word of the given fields and zeros elsewhere (30_encoding.md R81, R88). -/
def fieldsWord (op a b c : Nat) (m0 m1 m2 : BitVec 32) : Fields :=
  ⟨BitVec.ofNat 8 op, BitVec.ofNat 8 a, BitVec.ofNat 8 b, BitVec.ofNat 8 c, m0, m1, m2⟩

/-! ### Updates -/

/-- The state with a unit's two bits replaced. -/
def withUnit (x : PoUnit) (p : PhaseOutput) (s : State) : State :=
  match x with
  | .pump => { s with pump := { s.pump with po := p } }
  | .heater => { s with heater := { s.heater with po := p } }
  | .valve => { s with valve := p }

/-- A unit's two bits. -/
def unitBits (x : PoUnit) (s : State) : PhaseOutput :=
  match x with
  | .pump => s.pump.po
  | .heater => s.heater.po
  | .valve => s.valve

/-- The valve after a request: open only where it is enabled or already on (40_phase_output.md R112 to
R114). -/
def valveAfter (v : Bool) (p : PhaseOutput) : PhaseOutput := ⟨p.en, v && (p.en || p.out)⟩

/-- `d` and `k` are the deadline and the free-value counter of a timer armed for the exact time `x`:
`x` itself, with no free value used, where it fits the register; unconstrained where it does not
(notes/assumptions/4.md). -/
def ArmedAt (x : Int) (s : State) (d : Time) (k : Nat) : Prop :=
  0 ≤ x ∧ x < 2 ^ 64 → (d.toNat : Int) = x ∧ k = s.freeIdx

/-- The pump override wins inside a stop: active and strictly younger than its duration
(46_watercontrol.md R216). -/
def wins (s : State) : Prop :=
  s.wc.ovrActive = true ∧ s.wc.ovrActiveMs.toNat ≤ s.now.toNat ∧
    s.now.toNat < s.wc.ovrActiveMs.toNat + s.wc.ovrTotalMs.toNat

/-- The pump override does not win: inactive, of duration 0 ("never wins"), or at least as old as its
duration (46_watercontrol.md R216). A stamp in the future, which no run reaches, falls under neither
`wins` nor, where the override is active and has a duration, `loses`. -/
def loses (s : State) : Prop :=
  s.wc.ovrActive = false ∨ s.wc.ovrTotalMs.toNat = 0 ∨
    s.wc.ovrActiveMs.toNat + s.wc.ovrTotalMs.toNat ≤ s.now.toNat

/-- `q` is the percent a stop leaves on the pump and `w` WaterControl's registers after it
(46_watercontrol.md R216): the override's percent and the override kept, or the requested percent and
the override cleared. Which of the two is open only where neither `wins` nor `loses` holds. -/
def Arbitrated (p : Percent) (m : WcMode) (s : State) (q : Percent) (w : WaterControl) : Prop :=
  (¬ loses s ∧ q = s.wc.ovrPercent ∧ w = { s.wc with mode := m }) ∨
  (¬ wins s ∧ q = p ∧ w = ⟨m, false, 0, 0, 0⟩)

/-- The Shot sequencer after a stop: unchanged unless active, else IDLE, disarmed and stamped
(44_shot.md R183). -/
def shotStopped (s : State) : Shot :=
  if s.shot.active then
    { s.shot with active := false, stage := .idle, stopTime := s.now,
                  timer := ⟨false, s.shot.timer.deadline⟩ }
  else s.shot

/-- The Preheat sequencer after a stop (45_preheat.md R206). -/
def preStopped (s : State) : Preheat :=
  { s.pre with stage := .off, timer := ⟨false, s.pre.timer.deadline⟩ }

/-- `t` is what a stop with percent `p`, valve `v` and mode `m` leaves of `s` (46_watercontrol.md
R216). -/
def Stopped (p : Percent) (v : Bool) (m : WcMode) (s t : State) : Prop :=
  ∃ q w, Arbitrated p m s q w ∧
    t = { s with pump := { s.pump with level := bucket q }, valve := valveAfter v s.valve,
                 shot := shotStopped s, pre := preStopped s, wc := w }

/-- The arguments of a Shot start are out of bounds (44_shot.md R176). -/
def ShotArgsOut (f r z : Millis) (a b : Percent) : Prop :=
  f.toNat = 0 ∨ f.toNat > 5000 ∨ r.toNat > 10000 ∨ z.toNat > 10000 ∨ a.toNat > b.toNat ∨
    b.toNat > 100

/-- The arguments of a Preheat start are out of bounds (45_preheat.md R200). -/
def PreArgsOut (a b c : Millis) : Prop :=
  a.toNat < 100 ∨ a.toNat > 5000 ∨ b.toNat > 2000 ∨ c.toNat < 4000 ∨ c.toNat > 50000

/-- The PID registers with a new target and mode (43_pid.md R147). -/
def retarget (c : Cfg) (t : Rat) (m : PidMode) (p : Pid) : Pid :=
  { p with target := targetAfter c t, mode := m }

/-! ### Runs -/

/-- The number of on ticks among the next `n` heater ticks. -/
def heaterOnTicks : Nat → State → Nat
  | 0, _ => 0
  | n + 1, s => (if (heaterTick s).heater.po.out then 1 else 0) + heaterOnTicks n (heaterTick s)

/-- The number of on ticks among the next `n` pump ticks. -/
def pumpOnTicks : Nat → State → Nat
  | 0, _ => 0
  | n + 1, s => (if (pumpTick s).pump.po.out then 1 else 0) + pumpOnTicks n (pumpTick s)

/-- The state after `PID_CYCLE` runs once for each of the given sensor readings. -/
def pidCycles : List Sensors → State → State
  | [], s => s
  | x :: xs, s => pidCycles xs (pidCycle { s with sensors := x })

/-- `n` successive `TICK_MS` take `s` to `t`. -/
def Ticks : Nat → State → State → Prop
  | 0, s, t => t = s
  | n + 1, s, t => ∃ u, exec .tickMs s = .next u ∧ Ticks n u t

/-- The loop of 47_time_and_queries.md R242 takes `s` to `t` with `n` timer fires: the Shot timer is
served before the Preheat timer, until none is due. -/
inductive Settles : Nat → State → State → Prop where
  | done (s : State) :
      ¬(s.shot.timer.armed = true ∧ s.shot.timer.deadline.toNat ≤ s.now.toNat) →
      ¬(s.pre.timer.armed = true ∧ s.pre.timer.deadline.toNat ≤ s.now.toNat) → Settles 0 s s
  | shot (n : Nat) (s t : State) :
      s.shot.timer.armed = true → s.shot.timer.deadline.toNat ≤ s.now.toNat →
      Settles n (shotTimerFire s) t → Settles (n + 1) s t
  | preheat (n : Nat) (s t : State) :
      ¬(s.shot.timer.armed = true ∧ s.shot.timer.deadline.toNat ≤ s.now.toNat) →
      s.pre.timer.armed = true → s.pre.timer.deadline.toNat ≤ s.now.toNat →
      Settles n (preheatTimerFire s) t → Settles (n + 1) s t

/-- The state in which `TICK_MS` looks at its timers: one millisecond later, after the heater tick and
the pump tick (47_time_and_queries.md R241). -/
def afterTicks (s : State) : State :=
  let a := { s with now := s.now + 1 }
  let b := if a.now.toNat % 10 = 0 then heaterTick a else a
  if b.now.toNat % s.cfg.pumpTickMs = 0 then pumpTick b else b

/-- The last event of a millisecond: the PID cycle at a multiple of the sample period
(47_time_and_queries.md R241, R243). -/
def afterPeriod (s : State) : State :=
  if s.now.toNat % s.cfg.samplePeriodMs = 0 then pidCycle s else s

/-! ### What the rules call unobservable -/

/-- Two states that agree but for what no rule reads back: the error flags (60_exceptions.md R265),
the telemetry registers (10_state.md R34), `pump_last_on` (R24) and the platform's coming strobes. -/
def AgreeButUnread (s t : State) : Prop :=
  t = { s with err := t.err, tele := t.tele, feed := t.feed,
               pump := { s.pump with lastOn := t.pump.lastOn } }

/-- A word is illegal (30_encoding.md R92, R96): it matches no row of the opcode table, or a component
row while `COMPONENT_PORT = 0`. -/
def Illegal (c : Cfg) (w : CommandWord) : Prop :=
  ∀ r ∈ opcodeTable, r.accepts w = true → r.component = true ∧ c.componentPort = false

end Sys2Proof.Spec

open Sys2Proof Sys2Proof.Machine Sys2Proof.Spec

/-! ## Reset -/

/-- R36: the value of every register after reset, whatever the parameters. -/
def Obligations.ResetGivesEveryRegisterItsTableValue : Prop :=
  ∀ c : Cfg, ∀ s : State, s = State.resetWith c →
    s.cfg = c ∧ s.now = 0 ∧
    (∀ x, unitBits x s = ⟨false, false⟩) ∧
    levelPercent s.pump.level = 0 ∧ s.pump.pos = 0 ∧ s.pump.lastOn = 0 ∧
    s.heater.duty = 0 ∧ s.heater.pos = 0 ∧
    s.pid.en = false ∧ s.pid.target = c.pidMinTemp ∧ s.pid.mode = .water ∧
    s.pid.u1 = 0 ∧ s.pid.pv1 = 0 ∧ s.pid.pv2 = 0 ∧
    s.pid.p = 0 ∧ s.pid.i = 0 ∧ s.pid.d = 0 ∧ s.pid.u = 0 ∧
    s.pid.ovrValue = 0 ∧ s.pid.ovrCount = 0 ∧
    s.shot.active = false ∧ s.shot.stage = .idle ∧ s.shot.startTime = 0 ∧ s.shot.stopTime = 0 ∧
    s.shot.initFillMs = 0 ∧ s.shot.rampMs = 0 ∧ s.shot.pauseMs = 0 ∧
    s.shot.startPct = 0 ∧ s.shot.stopPct = 0 ∧ s.shot.curPct = 0 ∧ s.shot.timer = ⟨false, 0⟩ ∧
    s.pre.stage = .off ∧ s.pre.pumpMs = 0 ∧ s.pre.stopPumpMs = 0 ∧ s.pre.pauseMs = 0 ∧
    s.pre.timer = ⟨false, 0⟩ ∧
    s.wc = ⟨.off, false, 0, 0, 0⟩ ∧ s.err = ⟨false, false, false, false⟩ ∧
    s.tele.p = 0 ∧ s.tele.i = 0 ∧ s.tele.d = 0 ∧ s.tele.u = 0 ∧ s.tele.heater = 0 ∧
    levelPercent s.tele.pump = 0 ∧ s.tele.seq = 0

/-- R290: the reset input puts every register at its reset value, in any state. That the input arrives
as a strobe of `feed`, and that the parameters, the sensor levels and the coming strobes, which are no
registers, stay, is the model's choice (notes/assumptions/2.md). -/
def Obligations.ResetInputRestoresTheResetRegisters : Prop :=
  ∀ (s : State) (rest : List PortEvent), s.feed = .reset :: rest →
    step s = .next { State.resetWith s.cfg with
      sensors := s.sensors, feed := rest, freeIdx := s.freeIdx }

/-! ## Encoding and the step -/

/-- R81 to R85: decoding the word of a well-formed command gives the command back, every operand at
every value its field admits. -/
def Obligations.DecodeOfEncodeIsTheCommand : Prop :=
  ∀ i : Instr, i.wellFormed = true → decode (encode i) = .ok i

/-- R88, R92: a word decodes to a command only if it is that command's encoding, bit for bit, so no
must-be-zero bit is ignored and no two words mean the same. -/
def Obligations.OnlyEncodingsDecode : Prop :=
  ∀ (w : CommandWord) (i : Instr), decode w = .ok i → i.wellFormed = true ∧ encode i = w

/-- R96: the decoder and the mask-and-match table accept the same words as the same commands, the
rows' group is the command's group, and no word matches two rows. -/
def Obligations.DecoderAgreesWithTheMaskTable : Prop :=
  opcodeTable.length = 34 ∧
  (∀ r ∈ opcodeTable, ∀ w : CommandWord,
    r.accepts w = true ↔ ∃ i, decode w = .ok i ∧ mnemonicOf i = r.mnemonic ∧
      i.isComponent = r.component) ∧
  (∀ r ∈ opcodeTable, ∀ r' ∈ opcodeTable, ∀ w : CommandWord,
    r.accepts w = true → r'.accepts w = true → r = r')

/-- R95: the worked encodings of the spec, read and written. -/
def Obligations.WorkedEncodingsReadAndWrite : Prop :=
  ∀ p ∈ ([(.wcEnable, 0x00000000000000000000000000000001#128),
      (.wcStartPump 47#8 false, 0x00000000000000000000000000002F03#128),
      (.wcStartSteam 0#8 true, 0x00000000000000000000000000010006#128),
      (.wcOverridePump 80#8 2000#32, 0x0000000000000000000007D000005007#128),
      (.wcStop 0#8 false 0#3, 0x00000000000000000000000000000008#128),
      (.wcStop 100#8 true 2#3, 0x00000000000000000000000002016408#128),
      (.tickMs, 0x00000000000000000000000000000020#128),
      (.pumpSetLevel 47#8, 0x00000000000000000000000000002F88#128),
      (.pidSetTarget 0x005F0000#32 false, 0x0000000000000000005F000000000092#128),
      (.pidSetTarget 0x00828000#32 true, 0x00000000000000000082800000010092#128),
      (.pidOverride 0x00640000#32 3#32, 0x00000000000000030064000000000093#128),
      (.shotStart 1000#32 8000#32 0#32 10#8 100#8, 0x0000000000001F40000003E800640AA0#128),
      (.preheatStart 1000#32 300#32 10000#32, 0x000027100000012C000003E8000000B0#128),
      (.poEnable 2#8, 0x00000000000000000000000000000280#128)] : List (Instr × CommandWord)),
    decode p.2 = .ok p.1 ∧ encode p.1 = p.2

/-- R80, R66: the step takes the next strobe whole: a word that decodes to `i` runs `i`, in the state
that holds the sensor levels of the moment, the remaining strobes, and a silent response port. -/
def Obligations.StepRunsTheDecodedCommand : Prop :=
  ∀ (s : State) (w : CommandWord) (x : Sensors) (rest : List PortEvent) (i : Instr),
    s.feed = .command w x :: rest → decode w = .ok i →
    step s = exec i { s with sensors := x, feed := rest, rsp := none }

/-- R92: an illegal word sets `err_illegal_cmd`, changes no other register and sends no response. -/
def Obligations.IllegalWordsOnlySetTheirFlag : Prop :=
  ∀ (s : State) (w : CommandWord) (x : Sensors) (rest : List PortEvent),
    s.feed = .command w x :: rest → Illegal s.cfg w →
    step s = .next { s with sensors := x, feed := rest, rsp := none,
                            err := { s.err with illegalCmd := true } }

/-- R85, R272: with `COMPONENT_PORT = 0` a component command is an illegal word, in every state. -/
def Obligations.ComponentCommandsNeedThePort : Prop :=
  ∀ (i : Instr) (s : State), i.isComponent = true → s.cfg.componentPort = false →
    exec i s = .next { s with err := { s.err with illegalCmd := true } }

/-! ## PhaseOutput -/

/-- R110: `PO_ENABLE` sets the enable bit of its unit and leaves the output. -/
def Obligations.PoEnableLeavesTheOutput : Prop :=
  ∀ (x : PoUnit) (s : State), s.cfg.componentPort = true →
    encodeFields (.poEnable (unitNumber x)) = fieldsWord 0x80 (unitNumber x).toNat 0 0 0 0 0 ∧
    exec (.poEnable (unitNumber x)) s = .next (withUnit x ⟨true, (unitBits x s).out⟩ s)

/-- R111: `PO_DISABLE` forces the output off at once and touches nothing but the two bits. -/
def Obligations.PoDisableForcesOff : Prop :=
  ∀ (x : PoUnit) (s : State), s.cfg.componentPort = true →
    encodeFields (.poDisable (unitNumber x)) = fieldsWord 0x81 (unitNumber x).toNat 0 0 0 0 0 ∧
    exec (.poDisable (unitNumber x)) s = .next (withUnit x ⟨false, false⟩ s)

/-- R112: `PO_ON` acts on an enabled unit; on a disabled one it changes nothing and is not
remembered. -/
def Obligations.PoOnNeedsTheEnable : Prop :=
  ∀ (x : PoUnit) (s : State), s.cfg.componentPort = true →
    encodeFields (.poOn (unitNumber x)) = fieldsWord 0x82 (unitNumber x).toNat 0 0 0 0 0 ∧
    ((unitBits x s).en = true → exec (.poOn (unitNumber x)) s = .next (withUnit x ⟨true, true⟩ s)) ∧
    ((unitBits x s).en = false → exec (.poOn (unitNumber x)) s = .next s)

/-- R113: `PO_OFF` acts whether or not the unit is enabled. -/
def Obligations.PoOffAlwaysActs : Prop :=
  ∀ (x : PoUnit) (s : State), s.cfg.componentPort = true →
    encodeFields (.poOff (unitNumber x)) = fieldsWord 0x83 (unitNumber x).toNat 0 0 0 0 0 ∧
    exec (.poOff (unitNumber x)) s = .next (withUnit x ⟨(unitBits x s).en, false⟩ s)

/-! ## PumpPWM -/

/-- R120: `bucket` is the nearest ten with the half going up, 100 above 100; it is idempotent and
monotonic, and moves a percent of at most 100 by at most 5. -/
def Obligations.BucketRoundsToTheNearestTen : Prop :=
  (∀ p : Percent, levelPercent (bucket p) =
    if p.toNat > 100 then 100 else 10 * ((p.toNat + 5) / 10)) ∧
  (∀ p : Percent, bucket (BitVec.ofNat 8 (levelPercent (bucket p))) = bucket p) ∧
  (∀ p q : Percent, p.toNat < q.toNat → levelPercent (bucket p) ≤ levelPercent (bucket q)) ∧
  (∀ p : Percent, p.toNat ≤ 100 →
    levelPercent (bucket p) ≤ p.toNat + 5 ∧ p.toNat ≤ levelPercent (bucket p) + 5)

/-- R121: `PUMP_SET_LEVEL` stores the bucketed level, enabled or not, and touches nothing else. -/
def Obligations.PumpSetLevelStoresTheBucket : Prop :=
  ∀ (p : Percent) (s : State), s.cfg.componentPort = true →
    encodeFields (.pumpSetLevel p) = fieldsWord 0x88 p.toNat 0 0 0 0 0 ∧
    exec (.pumpSetLevel p) s = .next { s with pump := { s.pump with level := bucket p } }

/-- R122, R123: a disabled tick forces off and does not advance; an enabled one reduces the position
modulo the new period, decides by the table, stamps an on tick, and advances. So does the tick that
`TICK_MS` runs, whatever `COMPONENT_PORT` is, and so does the command where the port is open. -/
def Obligations.PumpTickEmitsTheTable : Prop :=
  encodeFields .pumpTick = fieldsWord 0x89 0 0 0 0 0 0 ∧
  ∀ s : State, ∃ t : State,
    (s.pump.po.en = false → t = { s with pump := { s.pump with po := ⟨false, false⟩ } }) ∧
    (s.pump.po.en = true → ∃ pos' : Fin 10,
      pos'.val = (s.pump.pos.val % (pumpTable s.pump.level).1 + 1) % (pumpTable s.pump.level).1 ∧
      t = { s with pump :=
        if s.pump.pos.val % (pumpTable s.pump.level).1 ∈ (pumpTable s.pump.level).2 then
          { s.pump with po := ⟨true, true⟩, pos := pos', lastOn := s.now }
        else { s.pump with po := ⟨true, false⟩, pos := pos' } }) ∧
    pumpTick s = t ∧ (s.cfg.componentPort = true → exec .pumpTick s = .next t)

/-- R124: an enabled driver at level L is on for exactly `n * |ON(L)|` of any `n * period(L)`
consecutive ticks, whatever the starting position. -/
def Obligations.PumpIsOnForItsShareOfWholePeriods : Prop :=
  ∀ (n : Nat) (s : State), s.pump.po.en = true →
    pumpOnTicks (n * (pumpTable s.pump.level).1) s = n * (pumpTable s.pump.level).2.length

/-! ## HeaterPWM -/

/-- R135: `HEATER_SET_DUTY` stores a duty of at most 100; above it stores 0 and raises the range
error. -/
def Obligations.HeaterSetDutyRejectsAboveHundred : Prop :=
  ∀ (p : Percent) (s : State), s.cfg.componentPort = true →
    encodeFields (.heaterSetDuty p) = fieldsWord 0x8A p.toNat 0 0 0 0 0 ∧
    (∀ d : Fin 101, d.val = p.toNat →
      exec (.heaterSetDuty p) s = .next { s with heater := { s.heater with duty := d } }) ∧
    (p.toNat > 100 → exec (.heaterSetDuty p) s =
      .next { s with heater := { s.heater with duty := 0 },
                     err := { s.err with heaterRange := true } })

/-- R136: on while enabled and the position is below the duty; the position always advances and wraps
at 100. So does the tick that `TICK_MS` runs, whatever `COMPONENT_PORT` is, and so does the command
where the port is open. -/
def Obligations.HeaterTickComparesAndAdvances : Prop :=
  encodeFields .heaterTick = fieldsWord 0x8B 0 0 0 0 0 0 ∧
  ∀ s : State, ∃ (pos' : Fin 100) (t : State),
    pos'.val = (s.heater.pos.val + 1) % 100 ∧
    t = { s with heater :=
      { s.heater with pos := pos', po := ⟨s.heater.po.en,
          if s.heater.po.en = true ∧ s.heater.pos.val < s.heater.duty.val then true else false⟩ } } ∧
    heaterTick s = t ∧ (s.cfg.componentPort = true → exec .heaterTick s = .next t)

/-- R137: any 100 consecutive ticks at an unchanged duty D are on exactly D times, whatever the
starting position. -/
def Obligations.HeaterIsOnForItsDutyOfAFullCycle : Prop :=
  ∀ s : State, s.heater.po.en = true → heaterOnTicks 100 s = s.heater.duty.val

/-! ## PIDController -/

/-- R146: `PID_START` takes the current reading into the history, zeroes the previous output and the
duty, and enables; target, mode, shares and override stay. -/
def Obligations.PidStartResetsTheHistory : Prop :=
  ∀ s : State, s.cfg.componentPort = true →
    encodeFields .pidStart = fieldsWord 0x90 0 0 0 0 0 0 ∧
    exec .pidStart s = .next { s with
      heater := { s.heater with duty := 0 },
      pid := { s.pid with en := true, u1 := 0, pv1 := processValue s.pid.mode s.sensors,
                          pv2 := processValue s.pid.mode s.sensors } }

/-- R149: `PID_STOP` disables and zeroes the duty without touching history, target or override. -/
def Obligations.PidStopKeepsTheHistory : Prop :=
  ∀ s : State, s.cfg.componentPort = true →
    encodeFields .pidStop = fieldsWord 0x91 0 0 0 0 0 0 ∧
    exec .pidStop s = .next { s with
      heater := { s.heater with duty := 0 }, pid := { s.pid with en := false } }

/-- R147: a target outside `[PID_MIN_TEMP, PID_MAX_TEMP)` becomes `PID_MIN_TEMP`; the mode is stored in
every case. -/
def Obligations.PidSetTargetReplacesIllegalTargets : Prop :=
  ∀ (w : Q16) (v : Bool) (s : State), s.cfg.componentPort = true →
    encodeFields (.pidSetTarget w v) = fieldsWord 0x92 0 (if v then 1 else 0) 0 w 0 0 ∧
    exec (.pidSetTarget w v) s = .next { s with pid :=
      { s.pid with target := targetAfter s.cfg (ofQ16 w), mode := if v then .steam else .water } }

/-- R148: `PID_OVERRIDE` replaces the pending override, value and count both, enabled or not. -/
def Obligations.PidOverrideReplacesThePendingOne : Prop :=
  ∀ (w : Q16) (n : BitVec 32) (s : State), s.cfg.componentPort = true →
    encodeFields (.pidOverride w n) = fieldsWord 0x93 0 0 0 w n 0 ∧
    exec (.pidOverride w n) s =
      .next { s with pid := { s.pid with ovrValue := ofQ16 w, ovrCount := n } }

/-- R151 to R161: a disabled cycle does nothing; an enabled one computes the nine steps of the loop, in
exact rationals, from the state before it. So does the cycle that `TICK_MS` runs, whatever
`COMPONENT_PORT` is, and so does the command where the port is open. -/
def Obligations.PidCycleComputesTheNineSteps : Prop :=
  encodeFields .pidCycle = fieldsWord 0x94 0 0 0 0 0 0 ∧
  ∀ s : State, s.cfg.Legal →
    (s.pid.en = false →
      pidCycle s = s ∧ (s.cfg.componentPort = true → exec .pidCycle s = .next s)) ∧
    (s.pid.en = true →
      ∀ pv e kp ts p i d u a b out uc ut : Rat,
        pv = processValue s.pid.mode s.sensors → e = s.pid.target - pv →
        kp = (if pv < s.pid.pv1 ∨ s.pid.mode = .steam then s.cfg.kpPos else s.cfg.kpNeg) →
        p = kp * (s.pid.pv1 - pv) → ts = (s.cfg.samplePeriodMs : Rat) / 1000 →
        i = s.cfg.ki * ts * e → d = s.cfg.kd * (2 * s.pid.pv1 - pv - s.pid.pv2) / ts →
        u = s.pid.u1 + p + i + d →
        a = (if e > 10 then 100 else u) →
        b = (if levelPercent s.pump.level = 0 ∧ pv ≥ s.pid.target + 1 / 2 then min a 5 else a) →
        out = (if s.pid.ovrCount.toNat > 0 then s.pid.ovrValue else b) →
        uc = min (max out 0) 100 →
        ut = (if 0 < uc ∧ uc ≤ s.cfg.pidMinOutput then s.cfg.pidMinOutput else uc) →
        ∃ (duty : Fin 101) (t : State), (duty.val : Int) = ut.floor ∧
          t = { s with
            heater := { s.heater with duty := duty },
            pid := { s.pid with pv2 := s.pid.pv1, pv1 := pv, u1 := uc, p := p, i := i, d := d,
                                u := u, ovrCount := BitVec.ofNat 32 (s.pid.ovrCount.toNat - 1) },
            tele := ⟨p, i, d, u, duty, s.pump.level, s.tele.seq + 1⟩ } ∧
          pidCycle s = t ∧ (s.cfg.componentPort = true → exec .pidCycle s = .next t))

/-- R164 c: under an override (v, n) with v in [0, 100] each of the next n cycles, whatever the sensors
read and whatever the clamps would do, outputs v: the previous output is v and the duty is the
floor of v, or of `PID_MIN_OUTPUT` where v is in (0, `PID_MIN_OUTPUT`]. -/
def Obligations.PidOverrideHoldsForItsCycles : Prop :=
  ∀ (s : State) (v : Rat) (xs : List Sensors), s.cfg.Legal → s.pid.en = true →
    s.pid.ovrValue = v → 0 ≤ v → v ≤ 100 → xs ≠ [] → xs.length ≤ s.pid.ovrCount.toNat →
    (pidCycles xs s).pid.u1 = v ∧
    ((pidCycles xs s).heater.duty.val : Int) =
      (if 0 < v ∧ v ≤ s.cfg.pidMinOutput then s.cfg.pidMinOutput else v).floor ∧
    (pidCycles xs s).pid.ovrCount.toNat = s.pid.ovrCount.toNat - xs.length

/-! ## ShotSequencer -/

/-- R176: an accepted start opens the valve, sets the pump to 100, arms the timer for `init_fill_ms`
and clears the start stamp; an out-of-bound start sets `err_cfg_reject` and nothing else; a start
while active changes nothing. -/
def Obligations.ShotStartValidatesThenStarts : Prop :=
  ∀ (f r z : Millis) (a b : Percent) (s : State), s.cfg.componentPort = true →
    encodeFields (.shotStart f r z a b) = fieldsWord 0xA0 a.toNat b.toNat 0 f r z ∧
    (s.shot.active = true → exec (.shotStart f r z a b) s = .next s) ∧
    (s.shot.active = false → ShotArgsOut f r z a b →
      exec (.shotStart f r z a b) s = .next { s with err := { s.err with cfgReject := true } }) ∧
    (s.shot.active = false → ¬ ShotArgsOut f r z a b →
      ∃ d k, ArmedAt (s.now.toNat + f.toNat) s d k ∧
        exec (.shotStart f r z a b) s = .next { s with
          valve := valveAfter true s.valve, pump := { s.pump with level := .l100 }, freeIdx := k,
          shot := { s.shot with active := true, stage := .initFill, startTime := 0, initFillMs := f,
                                rampMs := r, pauseMs := z, startPct := a, stopPct := b,
                                timer := ⟨true, d⟩ } })

/-- R177: the ramp interval is `10 * ramp_ms / (stop_pct - start_pct)` rounded to the nearest
millisecond, half up, and `SHOT_RAMP_DIV0_MS` for equal percents. -/
def Obligations.RampIntervalRoundsToTheNearest : Prop :=
  ∀ s : State,
    (s.shot.stopPct = s.shot.startPct → rampInterval s = s.cfg.shotRampDiv0Ms.toNat) ∧
    (∀ n : Int, n = (s.shot.stopPct.toNat : Int) - s.shot.startPct.toNat → 0 < n →
      (2 * rampInterval s - 1) * n ≤ 20 * s.shot.rampMs.toNat ∧
      20 * (s.shot.rampMs.toNat : Int) < (2 * rampInterval s + 1) * n)

/-- R178: the INIT_FILL fire sets the pump to the start percent and arms the first ramp step; a fire
with no shot active, whatever the stage, and a fire in IDLE or FULL only disarm the timer (the RAMP and
PAUSE arms are `RampFireStepsThePump` and `RampEndsInPauseOrFull`). -/
def Obligations.InitFillFireEntersRamp : Prop :=
  ∀ s : State,
    (s.cfg.Legal → s.shot.active = true → s.shot.stage = .initFill → s.shot.startPct.toNat ≤ 100 →
      ∃ d k, ArmedAt (s.now.toNat + rampInterval s) s d k ∧
        shotTimerFire s = { s with
          pump := { s.pump with level := bucket s.shot.startPct }, freeIdx := k,
          shot := { s.shot with
            stage := .ramp, timer := ⟨true, d⟩,
            curPct := BitVec.ofNat 8 (s.shot.startPct.toNat + s.cfg.rampFirstOffset) } }) ∧
    ((s.shot.active = false ∨ s.shot.stage = .idle ∨ s.shot.stage = .full) →
      shotTimerFire s = { s with shot := { s.shot with timer := ⟨false, s.shot.timer.deadline⟩ } })

/-- R179: a RAMP fire below the end sets the pump to the current percent, issues the override (100, 3)
past the first step, adds 10 and arms the same interval. -/
def Obligations.RampFireStepsThePump : Prop :=
  ∀ s : State, s.shot.active = true → s.shot.stage = .ramp →
    s.shot.curPct.toNat ≤ s.shot.stopPct.toNat → s.shot.curPct.toNat < 100 →
    ∃ d k, ArmedAt (s.now.toNat + rampInterval s) s d k ∧
      shotTimerFire s = { s with
        pump := { s.pump with level := bucket s.shot.curPct }, freeIdx := k,
        pid := if s.shot.curPct.toNat > s.shot.startPct.toNat + s.cfg.rampFirstOffset then
            { s.pid with ovrValue := 100, ovrCount := 3#32 } else s.pid,
        shot := { s.shot with timer := ⟨true, d⟩,
                              curPct := BitVec.ofNat 8 (s.shot.curPct.toNat + 10) } }

/-- R179, R180, R181, R182: the fire that ends the ramp enters PAUSE (pump 0, timer for `pause_ms`)
when `pause_ms > 0` and FULL otherwise; the PAUSE fire enters FULL, which stamps the start, sets the
pump to 100, issues the override (100, 3) and leaves the timer disarmed. -/
def Obligations.RampEndsInPauseOrFull : Prop :=
  ∀ s : State, s.shot.active = true →
    (s.shot.stage = .ramp →
      (s.shot.curPct.toNat > s.shot.stopPct.toNat ∨ s.shot.curPct.toNat ≥ 100) →
      s.shot.pauseMs.toNat > 0 →
      ∃ d k, ArmedAt (s.now.toNat + s.shot.pauseMs.toNat) s d k ∧
        shotTimerFire s = { s with
          pump := { s.pump with level := .l0 }, freeIdx := k,
          shot := { s.shot with stage := .pause, timer := ⟨true, d⟩ } }) ∧
    ((s.shot.stage = .pause ∨ (s.shot.stage = .ramp ∧ s.shot.pauseMs.toNat = 0 ∧
        (s.shot.curPct.toNat > s.shot.stopPct.toNat ∨ s.shot.curPct.toNat ≥ 100))) →
      shotTimerFire s = { s with
        pump := { s.pump with level := .l100 },
        pid := { s.pid with ovrValue := 100, ovrCount := 3#32 },
        shot := { s.shot with stage := .full, startTime := s.now, stopTime := 0,
                              timer := ⟨false, s.shot.timer.deadline⟩ } })

/-- R183: `SHOT_STOP` is a no-op unless a shot is active; otherwise it disarms the timer, goes to IDLE,
stamps the stop and sets pump and valve as asked. -/
def Obligations.ShotStopDisarmsAndRests : Prop :=
  ∀ (p : Percent) (v : Bool) (s : State), s.cfg.componentPort = true →
    encodeFields (.shotStop p v) = fieldsWord 0xA1 p.toNat (if v then 1 else 0) 0 0 0 0 ∧
    (s.shot.active = false → exec (.shotStop p v) s = .next s) ∧
    (s.shot.active = true → exec (.shotStop p v) s = .next { s with
      pump := { s.pump with level := bucket p }, valve := valveAfter v s.valve,
      shot := { s.shot with active := false, stage := .idle, stopTime := s.now,
                            timer := ⟨false, s.shot.timer.deadline⟩ } })

/-- R184, R245: `Q_SHOT_TIME` answers 0 before the flow, the elapsed time while it runs, the frozen
difference after the stop, and 0 with the error flag when the stamps are in the wrong order. An
elapsed time below 0 (a stamp in the future, which no run reaches) is a free value
(notes/assumptions/4.md). -/
def Obligations.ShotTimeIsAnsweredByCase : Prop :=
  encodeFields .qShotTime = fieldsWord 0x10 0 0 0 0 0 0 ∧
  ∀ s : State,
    (s.shot.startTime = 0 → exec .qShotTime s = .next { s with rsp := some (.word 0) }) ∧
    (s.shot.startTime ≠ 0 → s.shot.stopTime = 0 → s.shot.startTime.toNat ≤ s.now.toNat →
      ∃ w : BitVec 64, w.toNat = s.now.toNat - s.shot.startTime.toNat ∧
        exec .qShotTime s = .next { s with rsp := some (.word w) }) ∧
    (s.shot.startTime ≠ 0 → s.shot.stopTime = 0 → s.now.toNat < s.shot.startTime.toNat →
      ∃ (w : BitVec 64) (k : Nat),
        exec .qShotTime s = .next { s with rsp := some (.word w), freeIdx := k }) ∧
    (s.shot.startTime ≠ 0 → s.shot.stopTime ≠ 0 → s.shot.startTime.toNat ≤ s.shot.stopTime.toNat →
      ∃ w : BitVec 64, w.toNat = s.shot.stopTime.toNat - s.shot.startTime.toNat ∧
        exec .qShotTime s = .next { s with rsp := some (.word w) }) ∧
    (s.shot.startTime ≠ 0 → s.shot.stopTime ≠ 0 → s.shot.stopTime.toNat < s.shot.startTime.toNat →
      exec .qShotTime s = .next { s with rsp := some (.word 0),
                                         err := { s.err with shotTime := true } })

/-! ## PreheatSequencer -/

/-- R200, R201: an accepted start opens the valve, sets the pump to 100 and arms the timer for
`pump_ms`; an out-of-bound start sets `err_cfg_reject` and nothing else; a start while running
changes nothing. -/
def Obligations.PreheatStartValidatesThenStarts : Prop :=
  ∀ (a b c : Millis) (s : State), s.cfg.componentPort = true →
    encodeFields (.preheatStart a b c) = fieldsWord 0xB0 0 0 0 a b c ∧
    (s.pre.stage ≠ .off → exec (.preheatStart a b c) s = .next s) ∧
    (s.pre.stage = .off → PreArgsOut a b c →
      exec (.preheatStart a b c) s = .next { s with err := { s.err with cfgReject := true } }) ∧
    (s.pre.stage = .off → ¬ PreArgsOut a b c →
      ∃ d k, ArmedAt (s.now.toNat + a.toNat) s d k ∧
        exec (.preheatStart a b c) s = .next { s with
          valve := valveAfter true s.valve, pump := { s.pump with level := .l100 }, freeIdx := k,
          pre := ⟨.pumpOn, a, b, c, ⟨true, d⟩⟩ })

/-- R202 to R205, R199: each fire enters the next stage of the cycle with the outputs of that stage and
its timer: PUMP_ON to HOLD to PAUSE to PUMP_ON; in OFF it only disarms. -/
def Obligations.PreheatFiresCycleTheStages : Prop :=
  ∀ s : State,
    (s.pre.stage = .pumpOn →
      ∃ d k, ArmedAt (s.now.toNat + s.pre.stopPumpMs.toNat) s d k ∧
        preheatTimerFire s = { s with
          valve := ⟨s.valve.en, false⟩, pump := { s.pump with level := .l0 }, freeIdx := k,
          pre := { s.pre with stage := .hold, timer := ⟨true, d⟩ } }) ∧
    (s.pre.stage = .hold →
      ∃ d k, ArmedAt (s.now.toNat + s.pre.pauseMs.toNat) s d k ∧
        preheatTimerFire s = { s with
          valve := ⟨s.valve.en, false⟩, pump := { s.pump with level := .l0 }, freeIdx := k,
          pre := { s.pre with stage := .pause, timer := ⟨true, d⟩ } }) ∧
    (s.pre.stage = .pause →
      ∃ d k, ArmedAt (s.now.toNat + s.pre.pumpMs.toNat) s d k ∧
        preheatTimerFire s = { s with
          valve := valveAfter true s.valve, pump := { s.pump with level := .l100 }, freeIdx := k,
          pre := { s.pre with stage := .pumpOn, timer := ⟨true, d⟩ } }) ∧
    (s.pre.stage = .off → preheatTimerFire s =
      { s with pre := { s.pre with timer := ⟨false, s.pre.timer.deadline⟩ } })

/-- R206: `PREHEAT_STOP` acts in every stage: OFF, disarmed, pump and valve as asked. -/
def Obligations.PreheatStopIsUnconditional : Prop :=
  ∀ (p : Percent) (v : Bool) (s : State), s.cfg.componentPort = true →
    encodeFields (.preheatStop p v) = fieldsWord 0xB1 p.toNat (if v then 1 else 0) 0 0 0 0 ∧
    exec (.preheatStop p v) s = .next { s with
      pump := { s.pump with level := bucket p }, valve := valveAfter v s.valve,
      pre := { s.pre with stage := .off, timer := ⟨false, s.pre.timer.deadline⟩ } }

/-! ## WaterControl -/

/-- R216, R225: `WC_STOP` arbitrates: a winning override keeps its percent on the pump and stays
active, otherwise it is cleared and the requested percent applies; in both cases both sequencers
stop, the valve is set and the mode recorded. An active override with a duration and a stamp in the
future, which no run reaches, takes one of the two branches. -/
def Obligations.StopArbitratesThePumpOverride : Prop :=
  ∀ (p : Percent) (v : Bool) (m : WcMode) (s : State),
    encodeFields (.wcStop p v (modeNumber m)) =
      fieldsWord 0x08 p.toNat (if v then 1 else 0) (modeNumber m).toNat 0 0 0 ∧
    ∃ t, Stopped p v m s t ∧ exec (.wcStop p v (modeNumber m)) s = .next t

/-- R217: `WC_ENABLE` stops everything, sets the brew target in WATER, restarts the PID from the
current reading and enables the three units. -/
def Obligations.EnableStopsThenStartsThePid : Prop :=
  ∀ s : State,
    encodeFields .wcEnable = fieldsWord 0x01 0 0 0 0 0 0 ∧
    ∃ t, Stopped 0#8 false .off s t ∧ exec .wcEnable s = .next { t with
      pid := { retarget s.cfg s.cfg.brewTemp .water s.pid with
        en := true, u1 := 0, pv1 := processValue .water s.sensors,
        pv2 := processValue .water s.sensors },
      pump := { t.pump with po := { s.pump.po with en := true } },
      heater := { s.heater with duty := 0, po := { s.heater.po with en := true } },
      valve := { t.valve with en := true } }

/-- R218: `WC_DISABLE` stops everything, stops the PID and forces the three outputs off. -/
def Obligations.DisableTurnsEverythingOff : Prop :=
  ∀ s : State,
    encodeFields .wcDisable = fieldsWord 0x02 0 0 0 0 0 0 ∧
    ∃ t, Stopped 0#8 false .off s t ∧ exec .wcDisable s = .next { t with
      pid := { s.pid with en := false },
      pump := { t.pump with po := ⟨false, false⟩ },
      heater := { s.heater with duty := 0, po := ⟨false, false⟩ }, valve := ⟨false, false⟩ }

/-- R219, R220: `WC_START_PUMP` goes through the arbiter, records WATER or WATER_VALVE and sets the
brew target. -/
def Obligations.StartPumpGoesThroughTheArbiter : Prop :=
  ∀ (p : Percent) (v : Bool) (s : State),
    encodeFields (.wcStartPump p v) = fieldsWord 0x03 p.toNat (if v then 1 else 0) 0 0 0 0 ∧
    ∃ t, Stopped p v (if v then .waterValve else .water) s t ∧
      exec (.wcStartPump p v) s =
        .next { t with pid := retarget s.cfg s.cfg.brewTemp .water s.pid }

/-- R221, R220: `WC_START_SHOT` is a no-op in mode SHOT; otherwise it stops flow-preserving, sets the
brew target and starts a shot with the configured arguments, or is rejected with mode SHOT
recorded. -/
def Obligations.StartShotStopsThenStarts : Prop :=
  ∀ s : State,
    encodeFields .wcStartShot = fieldsWord 0x04 0 0 0 0 0 0 ∧
    (s.wc.mode = .shot → exec .wcStartShot s = .next s) ∧
    (s.wc.mode ≠ .shot → ∃ t, Stopped 100#8 true .shot s t ∧
      (ShotArgsOut s.cfg.shotInitFillMs s.cfg.shotRampMs s.cfg.shotPauseMs s.cfg.shotStartPct
          s.cfg.shotStopPct →
        exec .wcStartShot s = .next { t with
          pid := retarget s.cfg s.cfg.brewTemp .water s.pid,
          err := { s.err with cfgReject := true } }) ∧
      (¬ ShotArgsOut s.cfg.shotInitFillMs s.cfg.shotRampMs s.cfg.shotPauseMs s.cfg.shotStartPct
          s.cfg.shotStopPct →
        ∃ d k, ArmedAt (s.now.toNat + s.cfg.shotInitFillMs.toNat) s d k ∧
          exec .wcStartShot s = .next { t with
            pid := retarget s.cfg s.cfg.brewTemp .water s.pid,
            pump := { s.pump with level := .l100 }, freeIdx := k,
            shot := { t.shot with
              active := true, stage := .initFill, startTime := 0,
              initFillMs := s.cfg.shotInitFillMs, rampMs := s.cfg.shotRampMs,
              pauseMs := s.cfg.shotPauseMs, startPct := s.cfg.shotStartPct,
              stopPct := s.cfg.shotStopPct, timer := ⟨true, d⟩ } }))

/-- R222, R220: `WC_START_PREHEAT`, likewise with the configured preheat arguments. -/
def Obligations.StartPreheatStopsThenStarts : Prop :=
  ∀ s : State,
    encodeFields .wcStartPreheat = fieldsWord 0x05 0 0 0 0 0 0 ∧
    (s.wc.mode = .preheat → exec .wcStartPreheat s = .next s) ∧
    (s.wc.mode ≠ .preheat → ∃ t, Stopped 100#8 true .preheat s t ∧
      (PreArgsOut s.cfg.prePumpMs s.cfg.preStopPumpMs s.cfg.prePauseMs →
        exec .wcStartPreheat s = .next { t with
          pid := retarget s.cfg s.cfg.brewTemp .water s.pid,
          err := { s.err with cfgReject := true } }) ∧
      (¬ PreArgsOut s.cfg.prePumpMs s.cfg.preStopPumpMs s.cfg.prePauseMs →
        ∃ d k, ArmedAt (s.now.toNat + s.cfg.prePumpMs.toNat) s d k ∧
          exec .wcStartPreheat s = .next { t with
            pid := retarget s.cfg s.cfg.brewTemp .water s.pid,
            pump := { s.pump with level := .l100 }, freeIdx := k,
            pre := ⟨.pumpOn, s.cfg.prePumpMs, s.cfg.preStopPumpMs, s.cfg.prePauseMs,
              ⟨true, d⟩⟩ }))

/-- R223, R220: `WC_START_STEAM` is a no-op in mode STEAM; otherwise it stops flow-preserving and
leaves its own pump percent, its own valve state and the steam target; a valve request is judged on
the valve as the stop left it. -/
def Obligations.StartSteamLeavesItsOwnOutputs : Prop :=
  ∀ (p : Percent) (v : Bool) (s : State),
    encodeFields (.wcStartSteam p v) = fieldsWord 0x06 p.toNat (if v then 1 else 0) 0 0 0 0 ∧
    (s.wc.mode = .steam → exec (.wcStartSteam p v) s = .next s) ∧
    (s.wc.mode ≠ .steam → ∃ t, Stopped 100#8 true .steam s t ∧
      exec (.wcStartSteam p v) s = .next { t with
        pump := { s.pump with level := bucket p }, valve := valveAfter v s.valve,
        pid := retarget s.cfg s.cfg.steamTemp .steam s.pid })

/-- R224: `WC_OVERRIDE_PUMP` sets the pump at once and replaces the override; valve, mode and sequencers
are not touched. -/
def Obligations.OverridePumpSetsThePumpAtOnce : Prop :=
  ∀ (p : Percent) (t : Millis) (s : State),
    encodeFields (.wcOverridePump p t) = fieldsWord 0x07 p.toNat 0 0 t 0 0 ∧
    exec (.wcOverridePump p t) s = .next { s with
      pump := { s.pump with level := bucket p }, wc := ⟨s.wc.mode, true, p, t, s.now⟩ }

/-! ## Queries -/

/-- R240, R246 to R249, R251: `NOP` changes nothing; the PID queries answer the exact rational of their
register and `Q_PUMP_DUTY` the stored level, and change no register. On the port a rational is the
floor of 65536 times it, held to the range of a 64-bit word (R249; 30_encoding.md R91). -/
def Obligations.NopAndQueriesChangeNoRegister : Prop :=
  (encodeFields .nop = fieldsWord 0x00 0 0 0 0 0 0 ∧ encodeFields .qPidP = fieldsWord 0x11 0 0 0 0 0 0 ∧
    encodeFields .qPidI = fieldsWord 0x12 0 0 0 0 0 0 ∧ encodeFields .qPidD = fieldsWord 0x13 0 0 0 0 0 0 ∧
    encodeFields .qPidU = fieldsWord 0x14 0 0 0 0 0 0 ∧ encodeFields .qPumpDuty = fieldsWord 0x15 0 0 0 0 0 0) ∧
  (∀ s : State,
    exec .nop s = .next s ∧
    exec .qPidP s = .next { s with rsp := some (.rational s.pid.p) } ∧
    exec .qPidI s = .next { s with rsp := some (.rational s.pid.i) } ∧
    exec .qPidD s = .next { s with rsp := some (.rational s.pid.d) } ∧
    exec .qPidU s = .next { s with rsp := some (.rational s.pid.u) } ∧
    exec .qPumpDuty s =
      .next { s with rsp := some (.word (BitVec.ofNat 64 (levelPercent s.pump.level))) }) ∧
  (∀ w : BitVec 64, portWord (.word w) = w) ∧
  (∀ (q : Rat) (n : Int), n = (q * 65536).floor →
    (n < -2 ^ 63 → (portWord (.rational q)).toInt = -2 ^ 63) ∧
    (-2 ^ 63 ≤ n → n < 2 ^ 63 → (portWord (.rational q)).toInt = n) ∧
    (2 ^ 63 ≤ n → (portWord (.rational q)).toInt = 2 ^ 63 - 1)) ∧
  portWord (.rational (-10)) = 0xFFFFFFFFFFF60000#64 ∧
  portWord (.rational (1 / 8)) = 0x0000000000002000#64

/-- R250: the bits of the status word, field by field, and that `Q_STATUS` changes no register. -/
def Obligations.StatusWordHasItsBits : Prop :=
  encodeFields .qStatus = fieldsWord 0x16 0 0 0 0 0 0 ∧
  ∀ s : State, ∃ w : BitVec 64, exec .qStatus s = .next { s with rsp := some (.word w) } ∧
    w.getLsbD 0 = s.pump.po.en ∧ w.getLsbD 1 = s.heater.po.en ∧ w.getLsbD 2 = s.valve.en ∧
    w.getLsbD 3 = s.pump.po.out ∧ w.getLsbD 4 = s.heater.po.out ∧ w.getLsbD 5 = s.valve.out ∧
    w.getLsbD 6 = s.pid.en ∧ w.getLsbD 7 = decide (s.pid.mode = .steam) ∧
    w.getLsbD 8 = s.shot.active ∧ w.getLsbD 9 = s.shot.timer.armed ∧
    w.getLsbD 10 = s.pre.timer.armed ∧ w.getLsbD 11 = s.wc.ovrActive ∧
    w.extractLsb' 12 3 = (match s.shot.stage with
      | .idle => 0#3 | .initFill => 1#3 | .ramp => 2#3 | .pause => 3#3 | .full => 4#3) ∧
    w.extractLsb' 15 2 = (match s.pre.stage with
      | .off => 0#2 | .pumpOn => 1#2 | .hold => 2#2 | .pause => 3#2) ∧
    w.extractLsb' 17 3 = modeNumber s.wc.mode ∧
    w.getLsbD 20 = s.err.heaterRange ∧ w.getLsbD 21 = s.err.cfgReject ∧
    w.getLsbD 22 = s.err.shotTime ∧ w.getLsbD 23 = s.err.illegalCmd ∧
    (w.extractLsb' 24 7).toNat = levelPercent s.pump.level ∧ w.getLsbD 31 = false ∧
    (w.extractLsb' 32 7).toNat = s.heater.duty.val ∧ w.extractLsb' 39 25 = 0#25

/-! ## The time base -/

/-- R241, R242, R243: `TICK_MS` advances the clock, runs the heater tick, the pump tick, the due timers
(Shot first, until none is due) and the PID cycle, in that order; it runs whenever the timers settle
within 16 fires (`TimersSettleWithinFourteenFires` says that they do). -/
def Obligations.TickRunsTheEventsInOrder : Prop :=
  encodeFields .tickMs = fieldsWord 0x20 0 0 0 0 0 0 ∧
  ∀ (s t : State) (n : Nat), s.now.toNat + 1 < 2 ^ 64 → n ≤ 16 → Settles n (afterTicks s) t →
    exec .tickMs s = .next (afterPeriod t)

/-- R241: at the last value of the clock a `TICK_MS` is refused, as the rule asks of a model. -/
def Obligations.TickIsRefusedAtTheEndOfTheClock : Prop :=
  ∀ s : State, s.now.toNat = 2 ^ 64 - 1 → exec .tickMs s = .refused .clockAtEnd

/-- R242: in a state that meets the invariants, with the clock clear of its end, the timers settle
within 14 fires, so `TICK_MS` answers a next state one millisecond later. -/
def Obligations.TimersSettleWithinFourteenFires : Prop :=
  ∀ s : State, RegInv s → ClockRoom s →
    (∃ n t, n ≤ 14 ∧ Settles n (afterTicks s) t) ∧
    ∃ t, exec .tickMs s = .next t ∧ t.now = s.now + 1

/-- R207, R199: a preheat alone on the machine repeats exactly. From the entry of PUMP_ON, at `j`
milliseconds into cycle `k` (cycle 0 the first) the stage, its timer, the pump and the valve are those
of the table of R199: PUMP_ON for `pump_ms`, HOLD for `stop_pump_ms`, PAUSE for `pause_ms`. In cycle 0
the outputs of PUMP_ON are as its entry left them; in every later one the pump is at 100 % and the
valve open where enabled. The cycle lasts 4100 to 57000 ms. -/
def Obligations.PreheatCycleRepeatsExactly : Prop :=
  ∀ (s : State) (n k j : Nat), RegInv s → s.shot.active = false → s.pre.stage = .pumpOn →
    s.pre.timer.deadline.toNat = s.now.toNat + s.pre.pumpMs.toNat →
    n = s.pre.pumpMs.toNat + s.pre.stopPumpMs.toNat + s.pre.pauseMs.toNat → j < n →
    s.now.toNat + (k * n + j) + 2 ^ 32 < 2 ^ 64 →
    4100 ≤ n ∧ n ≤ 57000 ∧
    ∃ t, Ticks (k * n + j) s t ∧ t.now.toNat = s.now.toNat + k * n + j ∧ t.shot = s.shot ∧
      t.pre.pumpMs = s.pre.pumpMs ∧ t.pre.stopPumpMs = s.pre.stopPumpMs ∧
      t.pre.pauseMs = s.pre.pauseMs ∧ t.pre.timer.armed = true ∧
      (j < s.pre.pumpMs.toNat →
        t.pre.stage = .pumpOn ∧
        t.pre.timer.deadline.toNat = s.now.toNat + k * n + s.pre.pumpMs.toNat ∧
        (k = 0 → t.pump.level = s.pump.level ∧ t.valve = s.valve) ∧
        (0 < k → t.pump.level = .l100 ∧ t.valve = ⟨s.valve.en, s.valve.en⟩)) ∧
      (s.pre.pumpMs.toNat ≤ j → j < s.pre.pumpMs.toNat + s.pre.stopPumpMs.toNat →
        t.pre.stage = .hold ∧
        t.pre.timer.deadline.toNat =
          s.now.toNat + k * n + s.pre.pumpMs.toNat + s.pre.stopPumpMs.toNat ∧
        t.pump.level = .l0 ∧ t.valve = ⟨s.valve.en, false⟩) ∧
      (s.pre.pumpMs.toNat + s.pre.stopPumpMs.toNat ≤ j →
        t.pre.stage = .pause ∧ t.pre.timer.deadline.toNat = s.now.toNat + k * n + n ∧
        t.pump.level = .l0 ∧ t.valve = ⟨s.valve.en, false⟩)

/-! ## Whole-machine rules -/

/-- R23 to R32: every step keeps the register invariants, from every state that meets them. That the
parameters are still legal after the reset input, which keeps them, is the model's choice
(notes/assumptions/2.md). -/
def Obligations.StepKeepsTheRegisterInvariants : Prop :=
  ∀ s t : State, RegInv s → step s = .next t → RegInv t

/-- The register invariants and the arbitration invariant hold after reset, for every legal set of
parameters and for the machine's own. -/
def Obligations.ResetMeetsTheInvariants : Prop :=
  (∀ c : Cfg, c.Legal → RegInv (State.resetWith c) ∧ OneSequencer (State.resetWith c)) ∧
  RegInv State.reset ∧ OneSequencer State.reset

/-- R230: under host commands alone (`COMPONENT_PORT = 0`) every step keeps the arbitration invariant,
so at most one sequencer runs, the one the mode names. -/
def Obligations.HostStepsKeepOneSequencer : Prop :=
  ∀ s t : State, s.cfg.componentPort = false → OneSequencer s → step s = .next t →
    OneSequencer t ∧ ¬(t.shot.active = true ∧ t.pre.stage ≠ .off)

/-- R33, R265: no command clears an error flag; only the reset input does. -/
def Obligations.ErrorFlagsAreSticky : Prop :=
  ∀ (s t : State) (e : ErrFlag), s.feed.head? ≠ some .reset → step s = .next t →
    getFlag e s.err = true → getFlag e t.err = true

/-- R260: there are no other causes of an error than the table's; the shot-time violation is not met
from a state that meets the invariants (R184). -/
def Obligations.OnlyTheNamedCausesRaiseErrors : Prop :=
  ∀ (i : Instr) (s t : State), s.cfg.Legal → exec i s = .next t →
    (t.err.heaterRange = true → s.err.heaterRange = true ∨
      ∃ p : Percent, i = .heaterSetDuty p ∧ p.toNat > 100) ∧
    (t.err.cfgReject = true → s.err.cfgReject = true ∨
      (s.shot.active = false ∧ ∃ f r z a b, i = .shotStart f r z a b ∧ ShotArgsOut f r z a b) ∨
      (s.pre.stage = .off ∧ ∃ a b c, i = .preheatStart a b c ∧ PreArgsOut a b c) ∨
      (i = .wcStartShot ∧ s.wc.mode ≠ .shot ∧
        ShotArgsOut s.cfg.shotInitFillMs s.cfg.shotRampMs s.cfg.shotPauseMs s.cfg.shotStartPct
          s.cfg.shotStopPct) ∨
      (i = .wcStartPreheat ∧ s.wc.mode ≠ .preheat ∧
        PreArgsOut s.cfg.prePumpMs s.cfg.preStopPumpMs s.cfg.prePauseMs)) ∧
    (t.err.shotTime = true → s.err.shotTime = true ∨
      (i = .qShotTime ∧ s.shot.stopTime.toNat < s.shot.startTime.toNat ∧ ¬ RegInv s)) ∧
    (t.err.illegalCmd = true → s.err.illegalCmd = true ∨
      (i.isComponent = true ∧ s.cfg.componentPort = false) ∨ i.wellFormed = false)

/-- R71: no operation can change a parameter. That the reset input keeps them too is the model's choice
(notes/assumptions/2.md): R71 says only that they are constant from reset on. -/
def Obligations.NoStepChangesAParameter : Prop :=
  ∀ s t : State, step s = .next t → t.cfg = s.cfg

/-- R265, R34, R24: what no rule reads back has no influence: but for `Q_STATUS`, an instruction run in
two states that differ in the error flags, the telemetry registers, `pump_last_on` and the coming
strobes alone ends alike in both, in states that differ in those alone. -/
def Obligations.UnreadStateHasNoInfluence : Prop :=
  ∀ (i : Instr) (s s' : State), i ≠ .qStatus → AgreeButUnread s s' →
    (∀ t, exec i s = .next t → ∃ t', exec i s' = .next t' ∧ AgreeButUnread t t') ∧
    (∀ r, exec i s = .fault r → exec i s' = .fault r) ∧
    (∀ r, exec i s = .refused r → exec i s' = .refused r)

/-- R80 b: a step sends a response exactly when it runs a query; any other step leaves the response
port silent. -/
def Obligations.ResponsesAnswerQueriesOnly : Prop :=
  ∀ s t : State, step s = .next t →
    (t.rsp.isSome = true ↔ ∃ w x rest i, s.feed = .command w x :: rest ∧ decode w = .ok i ∧
      i.isQuery = true)

/-- R64, R160: telemetry is published by an executed PID cycle only, once per cycle: a command other
than `PID_CYCLE` and `TICK_MS` leaves the telemetry registers alone, and `TICK_MS` publishes exactly
once when the controller is enabled at a multiple of the sample period, and not otherwise. -/
def Obligations.TelemetryComesFromPidCyclesOnly : Prop :=
  (∀ (i : Instr) (s t : State), i ≠ .pidCycle → i ≠ .tickMs → exec i s = .next t →
    t.tele = s.tele) ∧
  (∀ s t : State, exec .tickMs s = .next t →
    (s.pid.en = true ∧ (s.now.toNat + 1) % s.cfg.samplePeriodMs = 0 →
      t.tele.seq = s.tele.seq + 1 ∧ t.tele.p = t.pid.p ∧ t.tele.i = t.pid.i ∧
      t.tele.d = t.pid.d ∧ t.tele.u = t.pid.u ∧ t.tele.heater = t.heater.duty ∧
      t.tele.pump = t.pump.level) ∧
    (¬(s.pid.en = true ∧ (s.now.toNat + 1) % s.cfg.samplePeriodMs = 0) → t.tele = s.tele))

/-- R23, R290: from reset until a unit is enabled nothing but time passes: with every unit disabled,
the controller disabled and both timers disarmed, `TICK_MS` advances the clock and, every 10 ms, the
heater position, and changes nothing else (70_reset_and_hazards.md R291). -/
def Obligations.DisabledMachineOnlyCountsTime : Prop :=
  ∀ s : State, s.now.toNat + 1 < 2 ^ 64 → (∀ x, unitBits x s = ⟨false, false⟩) →
    s.pid.en = false → s.shot.timer.armed = false → s.pre.timer.armed = false →
    ∃ pos' : Fin 100,
      pos'.val = (if (s.now.toNat + 1) % 10 = 0 then (s.heater.pos.val + 1) % 100
        else s.heater.pos.val) ∧
      exec .tickMs s = .next { s with now := s.now + 1, heater := { s.heater with pos := pos' } }
end

