-- ==== Sys2Proof/Laws/Decode.lean ====
section
/-! SUPPORT. The fields of a word and the word of given fields are inverse to each other
(spec/30_encoding.md R81), and the small facts about the flag and mode fields (R82). -/

namespace Sys2Proof

/-- Reading the fields of a word built from fields gives them back. -/
@[simp] theorem fieldsOf_wordOf (f : Fields) : fieldsOf (wordOf f) = f := by
  obtain ⟨op, a, b, c, m0, m1, m2⟩ := f
  simp only [fieldsOf, wordOf, Fields.mk.injEq]
  refine ⟨?_, ?_, ?_, ?_, ?_, ?_, ?_⟩ <;>
    (apply BitVec.eq_of_getLsbD_eq; intro i hi
     simp only [BitVec.getLsbD_extractLsb', BitVec.getLsbD_append, hi, decide_true, Bool.true_and])
  all_goals (repeat' (split <;> try omega))
  all_goals congr 1
  all_goals omega

/-- Building a word from the fields of a word gives it back: the fields cover all 128 bits. -/
@[simp] theorem wordOf_fieldsOf (w : CommandWord) : wordOf (fieldsOf w) = w := by
  apply BitVec.eq_of_getLsbD_eq; intro i hi
  simp only [fieldsOf, wordOf, BitVec.getLsbD_extractLsb', BitVec.getLsbD_append]
  (repeat' (split <;> try omega)) <;>
    (rw [decide_eq_true (by omega), Bool.true_and]; congr 1; omega)

theorem decode_wordOf (f : Fields) : decode (wordOf f) = decodeFields f := by
  rw [decode, fieldsOf_wordOf]

@[simp] theorem flagField_flag (v : Bool) : (flagField v)[0] = v := by cases v <;> rfl

@[simp] theorem flagField_zeros (v : Bool) : (flagField v).extractLsb' 1 7 = 0 := by cases v <;> rfl

/-- A `b` field with its must-be-zero bits 0 is the field of its flag (R88). -/
theorem flagField_of_zeros : ∀ b : BitVec 8, b.extractLsb' 1 7 = 0 → flagField b[0] = b := by decide

@[simp] theorem modeField_mode : ∀ m : BitVec 3, (m.setWidth 8).extractLsb' 0 3 = m := by decide

@[simp] theorem modeField_zeros : ∀ m : BitVec 3, (m.setWidth 8).extractLsb' 3 5 = 0 := by decide

/-- A `c` field with its must-be-zero bits 0 is the field of its mode (R88). -/
theorem modeField_of_zeros :
    ∀ c : BitVec 8, c.extractLsb' 3 5 = 0 → (c.extractLsb' 0 3).setWidth 8 = c := by decide

end Sys2Proof
end

