-- ==== Sys2Proof/Laws/State.lean ====
section
/-! SUPPORT. What each named operation leaves alone: one lemma per operation, its clauses rewrite rules
for the fields of State, so that no later proof unfolds a record update. -/

namespace Sys2Proof.Machine

/-- `PoOn` without its test: the output becomes on where the unit is enabled and stays as it was where it
is not (40_phase_output.md R112). -/
theorem poOn_eq (x : PoUnit) (s : State) :
    poOn x s = setPo x ⟨(getPo x s).en, (getPo x s).en || (getPo x s).out⟩ s := by
  cases x <;> cases h : (getPo _ s).en <;> simp_all [poOn, setPo, getPo] <;> (rw [← h])

/-- `ValveSet` as one update of the valve (40_phase_output.md R112 to R114). -/
theorem valveSet_eq (v : Bool) (s : State) :
    valveSet v s = { s with valve := ⟨s.valve.en, v && (s.valve.en || s.valve.out)⟩ } := by
  cases v <;> simp [valveSet, poOn_eq, poOff, setPo, getPo]

@[simp] theorem raise_keeps (e : ErrFlag) (s : State) :
    (raise e s).cfg = s.cfg ∧ (raise e s).now = s.now ∧ (raise e s).pump = s.pump ∧
    (raise e s).heater = s.heater ∧ (raise e s).valve = s.valve ∧ (raise e s).pid = s.pid ∧
    (raise e s).shot = s.shot ∧ (raise e s).pre = s.pre ∧ (raise e s).wc = s.wc ∧
    (raise e s).tele = s.tele ∧ (raise e s).sensors = s.sensors ∧ (raise e s).rsp = s.rsp ∧
    (raise e s).feed = s.feed ∧ (raise e s).freeIdx = s.freeIdx := by
  simp [raise]

@[simp] theorem illegalWord_keeps (s : State) :
    (illegalWord s).cfg = s.cfg ∧ (illegalWord s).now = s.now ∧ (illegalWord s).pump = s.pump ∧
    (illegalWord s).heater = s.heater ∧ (illegalWord s).valve = s.valve ∧
    (illegalWord s).pid = s.pid ∧ (illegalWord s).shot = s.shot ∧ (illegalWord s).pre = s.pre ∧
    (illegalWord s).wc = s.wc ∧ (illegalWord s).tele = s.tele ∧
    (illegalWord s).sensors = s.sensors ∧ (illegalWord s).rsp = s.rsp ∧
    (illegalWord s).feed = s.feed ∧ (illegalWord s).freeIdx = s.freeIdx := by
  simp [illegalWord]

@[simp] theorem poEnable_keeps (x : PoUnit) (s : State) :
    (poEnable x s).cfg = s.cfg ∧ (poEnable x s).now = s.now ∧ (poEnable x s).pid = s.pid ∧
    (poEnable x s).shot = s.shot ∧ (poEnable x s).pre = s.pre ∧ (poEnable x s).wc = s.wc ∧
    (poEnable x s).err = s.err ∧ (poEnable x s).tele = s.tele ∧
    (poEnable x s).sensors = s.sensors ∧ (poEnable x s).rsp = s.rsp ∧
    (poEnable x s).feed = s.feed ∧ (poEnable x s).freeIdx = s.freeIdx := by
  cases x <;> simp [poEnable, setPo]

@[simp] theorem poDisable_keeps (x : PoUnit) (s : State) :
    (poDisable x s).cfg = s.cfg ∧ (poDisable x s).now = s.now ∧ (poDisable x s).pid = s.pid ∧
    (poDisable x s).shot = s.shot ∧ (poDisable x s).pre = s.pre ∧ (poDisable x s).wc = s.wc ∧
    (poDisable x s).err = s.err ∧ (poDisable x s).tele = s.tele ∧
    (poDisable x s).sensors = s.sensors ∧ (poDisable x s).rsp = s.rsp ∧
    (poDisable x s).feed = s.feed ∧ (poDisable x s).freeIdx = s.freeIdx := by
  cases x <;> simp [poDisable, setPo]

@[simp] theorem poOn_keeps (x : PoUnit) (s : State) :
    (poOn x s).cfg = s.cfg ∧ (poOn x s).now = s.now ∧ (poOn x s).pid = s.pid ∧
    (poOn x s).shot = s.shot ∧ (poOn x s).pre = s.pre ∧ (poOn x s).wc = s.wc ∧
    (poOn x s).err = s.err ∧ (poOn x s).tele = s.tele ∧ (poOn x s).sensors = s.sensors ∧
    (poOn x s).rsp = s.rsp ∧ (poOn x s).feed = s.feed ∧ (poOn x s).freeIdx = s.freeIdx := by
  cases x <;> simp [poOn_eq, setPo]

@[simp] theorem poOff_keeps (x : PoUnit) (s : State) :
    (poOff x s).cfg = s.cfg ∧ (poOff x s).now = s.now ∧ (poOff x s).pid = s.pid ∧
    (poOff x s).shot = s.shot ∧ (poOff x s).pre = s.pre ∧ (poOff x s).wc = s.wc ∧
    (poOff x s).err = s.err ∧ (poOff x s).tele = s.tele ∧ (poOff x s).sensors = s.sensors ∧
    (poOff x s).rsp = s.rsp ∧ (poOff x s).feed = s.feed ∧ (poOff x s).freeIdx = s.freeIdx := by
  cases x <;> simp [poOff, setPo]

@[simp] theorem valveSet_keeps (v : Bool) (s : State) :
    (valveSet v s).cfg = s.cfg ∧ (valveSet v s).now = s.now ∧ (valveSet v s).pump = s.pump ∧
    (valveSet v s).heater = s.heater ∧ (valveSet v s).pid = s.pid ∧ (valveSet v s).shot = s.shot ∧
    (valveSet v s).pre = s.pre ∧ (valveSet v s).wc = s.wc ∧ (valveSet v s).err = s.err ∧
    (valveSet v s).tele = s.tele ∧ (valveSet v s).sensors = s.sensors ∧
    (valveSet v s).rsp = s.rsp ∧ (valveSet v s).feed = s.feed ∧ (valveSet v s).freeIdx = s.freeIdx := by
  simp [valveSet_eq]

@[simp] theorem pumpSetLevel_keeps (p : Percent) (s : State) :
    (pumpSetLevel p s).cfg = s.cfg ∧ (pumpSetLevel p s).now = s.now ∧
    (pumpSetLevel p s).heater = s.heater ∧ (pumpSetLevel p s).valve = s.valve ∧
    (pumpSetLevel p s).pid = s.pid ∧ (pumpSetLevel p s).shot = s.shot ∧
    (pumpSetLevel p s).pre = s.pre ∧ (pumpSetLevel p s).wc = s.wc ∧
    (pumpSetLevel p s).err = s.err ∧ (pumpSetLevel p s).tele = s.tele ∧
    (pumpSetLevel p s).sensors = s.sensors ∧ (pumpSetLevel p s).rsp = s.rsp ∧
    (pumpSetLevel p s).feed = s.feed ∧ (pumpSetLevel p s).freeIdx = s.freeIdx := by
  simp [pumpSetLevel]

@[simp] theorem heaterSetDuty_keeps (d : Nat) (s : State) :
    (heaterSetDuty d s).cfg = s.cfg ∧ (heaterSetDuty d s).now = s.now ∧
    (heaterSetDuty d s).pump = s.pump ∧ (heaterSetDuty d s).valve = s.valve ∧
    (heaterSetDuty d s).pid = s.pid ∧ (heaterSetDuty d s).shot = s.shot ∧
    (heaterSetDuty d s).pre = s.pre ∧ (heaterSetDuty d s).wc = s.wc ∧
    (heaterSetDuty d s).tele = s.tele ∧ (heaterSetDuty d s).sensors = s.sensors ∧
    (heaterSetDuty d s).rsp = s.rsp ∧ (heaterSetDuty d s).feed = s.feed ∧
    (heaterSetDuty d s).freeIdx = s.freeIdx := by
  unfold heaterSetDuty; split <;> simp

@[simp] theorem publish_keeps (p i d u : Rat) (hd : Fin 101) (pd : PumpLevel) (s : State) :
    (publish p i d u hd pd s).cfg = s.cfg ∧ (publish p i d u hd pd s).now = s.now ∧
    (publish p i d u hd pd s).pump = s.pump ∧ (publish p i d u hd pd s).heater = s.heater ∧
    (publish p i d u hd pd s).valve = s.valve ∧ (publish p i d u hd pd s).pid = s.pid ∧
    (publish p i d u hd pd s).shot = s.shot ∧ (publish p i d u hd pd s).pre = s.pre ∧
    (publish p i d u hd pd s).wc = s.wc ∧ (publish p i d u hd pd s).err = s.err ∧
    (publish p i d u hd pd s).sensors = s.sensors ∧ (publish p i d u hd pd s).rsp = s.rsp ∧
    (publish p i d u hd pd s).feed = s.feed ∧ (publish p i d u hd pd s).freeIdx = s.freeIdx := by
  simp [publish]

@[simp] theorem respond_keeps (r : Response) (s : State) :
    (respond r s).cfg = s.cfg ∧ (respond r s).now = s.now ∧ (respond r s).pump = s.pump ∧
    (respond r s).heater = s.heater ∧ (respond r s).valve = s.valve ∧ (respond r s).pid = s.pid ∧
    (respond r s).shot = s.shot ∧ (respond r s).pre = s.pre ∧ (respond r s).wc = s.wc ∧
    (respond r s).err = s.err ∧ (respond r s).tele = s.tele ∧ (respond r s).sensors = s.sensors ∧
    (respond r s).feed = s.feed ∧ (respond r s).freeIdx = s.freeIdx := by
  simp [respond]

@[simp] theorem accept_keeps (x : Sensors) (rest : List PortEvent) (s : State) :
    (accept x rest s).cfg = s.cfg ∧ (accept x rest s).now = s.now ∧
    (accept x rest s).pump = s.pump ∧ (accept x rest s).heater = s.heater ∧
    (accept x rest s).valve = s.valve ∧ (accept x rest s).pid = s.pid ∧
    (accept x rest s).shot = s.shot ∧ (accept x rest s).pre = s.pre ∧
    (accept x rest s).wc = s.wc ∧ (accept x rest s).err = s.err ∧
    (accept x rest s).tele = s.tele ∧ (accept x rest s).freeIdx = s.freeIdx := by
  simp [accept]

@[simp] theorem idle_keeps (s : State) :
    (idle s).cfg = s.cfg ∧ (idle s).now = s.now ∧ (idle s).pump = s.pump ∧
    (idle s).heater = s.heater ∧ (idle s).valve = s.valve ∧ (idle s).pid = s.pid ∧
    (idle s).shot = s.shot ∧ (idle s).pre = s.pre ∧ (idle s).wc = s.wc ∧ (idle s).err = s.err ∧
    (idle s).tele = s.tele ∧ (idle s).sensors = s.sensors ∧ (idle s).feed = s.feed ∧
    (idle s).freeIdx = s.freeIdx := by
  simp [idle]

@[simp] theorem pushCommand_keeps (w : CommandWord) (s : State) :
    (pushCommand w s).cfg = s.cfg ∧ (pushCommand w s).now = s.now ∧
    (pushCommand w s).pump = s.pump ∧ (pushCommand w s).heater = s.heater ∧
    (pushCommand w s).valve = s.valve ∧ (pushCommand w s).pid = s.pid ∧
    (pushCommand w s).shot = s.shot ∧ (pushCommand w s).pre = s.pre ∧
    (pushCommand w s).wc = s.wc ∧ (pushCommand w s).err = s.err ∧
    (pushCommand w s).tele = s.tele ∧ (pushCommand w s).sensors = s.sensors ∧
    (pushCommand w s).rsp = s.rsp ∧ (pushCommand w s).freeIdx = s.freeIdx := by
  simp [pushCommand]

@[simp] theorem spend_keeps (w : Nat) (x : Int) (s : State) :
    (spend w x s).cfg = s.cfg ∧ (spend w x s).now = s.now ∧ (spend w x s).pump = s.pump ∧
    (spend w x s).heater = s.heater ∧ (spend w x s).valve = s.valve ∧ (spend w x s).pid = s.pid ∧
    (spend w x s).shot = s.shot ∧ (spend w x s).pre = s.pre ∧ (spend w x s).wc = s.wc ∧
    (spend w x s).err = s.err ∧ (spend w x s).tele = s.tele ∧ (spend w x s).sensors = s.sensors ∧
    (spend w x s).rsp = s.rsp ∧ (spend w x s).feed = s.feed := by
  unfold spend; split <;> simp

@[simp] theorem pumpStamp_keeps (s : State) :
    (pumpStamp s).cfg = s.cfg ∧ (pumpStamp s).now = s.now ∧ (pumpStamp s).heater = s.heater ∧
    (pumpStamp s).valve = s.valve ∧ (pumpStamp s).pid = s.pid ∧ (pumpStamp s).shot = s.shot ∧
    (pumpStamp s).pre = s.pre ∧ (pumpStamp s).wc = s.wc ∧ (pumpStamp s).err = s.err ∧
    (pumpStamp s).tele = s.tele ∧ (pumpStamp s).sensors = s.sensors ∧ (pumpStamp s).rsp = s.rsp ∧
    (pumpStamp s).feed = s.feed ∧ (pumpStamp s).freeIdx = s.freeIdx := by
  simp [pumpStamp]

@[simp] theorem pumpSlot_keeps (s : State) :
    (pumpSlot s).cfg = s.cfg ∧ (pumpSlot s).now = s.now ∧ (pumpSlot s).heater = s.heater ∧
    (pumpSlot s).valve = s.valve ∧ (pumpSlot s).pid = s.pid ∧ (pumpSlot s).shot = s.shot ∧
    (pumpSlot s).pre = s.pre ∧ (pumpSlot s).wc = s.wc ∧ (pumpSlot s).err = s.err ∧
    (pumpSlot s).tele = s.tele ∧ (pumpSlot s).sensors = s.sensors ∧ (pumpSlot s).rsp = s.rsp ∧
    (pumpSlot s).feed = s.feed ∧ (pumpSlot s).freeIdx = s.freeIdx := by
  unfold pumpSlot; split <;> simp [poOn_eq, poOff, setPo]

@[simp] theorem pumpAdvance_keeps (s : State) :
    (pumpAdvance s).cfg = s.cfg ∧ (pumpAdvance s).now = s.now ∧
    (pumpAdvance s).heater = s.heater ∧ (pumpAdvance s).valve = s.valve ∧
    (pumpAdvance s).pid = s.pid ∧ (pumpAdvance s).shot = s.shot ∧ (pumpAdvance s).pre = s.pre ∧
    (pumpAdvance s).wc = s.wc ∧ (pumpAdvance s).err = s.err ∧ (pumpAdvance s).tele = s.tele ∧
    (pumpAdvance s).sensors = s.sensors ∧ (pumpAdvance s).rsp = s.rsp ∧
    (pumpAdvance s).feed = s.feed ∧ (pumpAdvance s).freeIdx = s.freeIdx := by
  simp [pumpAdvance]

@[simp] theorem pumpTick_keeps (s : State) :
    (pumpTick s).cfg = s.cfg ∧ (pumpTick s).now = s.now ∧ (pumpTick s).heater = s.heater ∧
    (pumpTick s).valve = s.valve ∧ (pumpTick s).pid = s.pid ∧ (pumpTick s).shot = s.shot ∧
    (pumpTick s).pre = s.pre ∧ (pumpTick s).wc = s.wc ∧ (pumpTick s).err = s.err ∧
    (pumpTick s).tele = s.tele ∧ (pumpTick s).sensors = s.sensors ∧ (pumpTick s).rsp = s.rsp ∧
    (pumpTick s).feed = s.feed ∧ (pumpTick s).freeIdx = s.freeIdx := by
  unfold pumpTick; split <;> simp [poOff, setPo]

@[simp] theorem heaterTick_keeps (s : State) :
    (heaterTick s).cfg = s.cfg ∧ (heaterTick s).now = s.now ∧ (heaterTick s).pump = s.pump ∧
    (heaterTick s).valve = s.valve ∧ (heaterTick s).pid = s.pid ∧ (heaterTick s).shot = s.shot ∧
    (heaterTick s).pre = s.pre ∧ (heaterTick s).wc = s.wc ∧ (heaterTick s).err = s.err ∧
    (heaterTick s).tele = s.tele ∧ (heaterTick s).sensors = s.sensors ∧
    (heaterTick s).rsp = s.rsp ∧ (heaterTick s).feed = s.feed ∧ (heaterTick s).freeIdx = s.freeIdx := by
  simp [heaterTick]

@[simp] theorem pidSetTarget_keeps (t : Rat) (m : PidMode) (s : State) :
    (pidSetTarget t m s).cfg = s.cfg ∧ (pidSetTarget t m s).now = s.now ∧
    (pidSetTarget t m s).pump = s.pump ∧ (pidSetTarget t m s).heater = s.heater ∧
    (pidSetTarget t m s).valve = s.valve ∧ (pidSetTarget t m s).shot = s.shot ∧
    (pidSetTarget t m s).pre = s.pre ∧ (pidSetTarget t m s).wc = s.wc ∧
    (pidSetTarget t m s).err = s.err ∧ (pidSetTarget t m s).tele = s.tele ∧
    (pidSetTarget t m s).sensors = s.sensors ∧ (pidSetTarget t m s).rsp = s.rsp ∧
    (pidSetTarget t m s).feed = s.feed ∧ (pidSetTarget t m s).freeIdx = s.freeIdx := by
  simp [pidSetTarget]

@[simp] theorem pidOverride_keeps (v : Rat) (n : BitVec 32) (s : State) :
    (pidOverride v n s).cfg = s.cfg ∧ (pidOverride v n s).now = s.now ∧
    (pidOverride v n s).pump = s.pump ∧ (pidOverride v n s).heater = s.heater ∧
    (pidOverride v n s).valve = s.valve ∧ (pidOverride v n s).shot = s.shot ∧
    (pidOverride v n s).pre = s.pre ∧ (pidOverride v n s).wc = s.wc ∧
    (pidOverride v n s).err = s.err ∧ (pidOverride v n s).tele = s.tele ∧
    (pidOverride v n s).sensors = s.sensors ∧ (pidOverride v n s).rsp = s.rsp ∧
    (pidOverride v n s).feed = s.feed ∧ (pidOverride v n s).freeIdx = s.freeIdx := by
  simp [pidOverride]

@[simp] theorem pidResetHistory_keeps (pv : Rat) (s : State) :
    (pidResetHistory pv s).cfg = s.cfg ∧ (pidResetHistory pv s).now = s.now ∧
    (pidResetHistory pv s).pump = s.pump ∧ (pidResetHistory pv s).heater = s.heater ∧
    (pidResetHistory pv s).valve = s.valve ∧ (pidResetHistory pv s).shot = s.shot ∧
    (pidResetHistory pv s).pre = s.pre ∧ (pidResetHistory pv s).wc = s.wc ∧
    (pidResetHistory pv s).err = s.err ∧ (pidResetHistory pv s).tele = s.tele ∧
    (pidResetHistory pv s).sensors = s.sensors ∧ (pidResetHistory pv s).rsp = s.rsp ∧
    (pidResetHistory pv s).feed = s.feed ∧ (pidResetHistory pv s).freeIdx = s.freeIdx := by
  simp [pidResetHistory]

@[simp] theorem pidSetEn_keeps (on : Bool) (s : State) :
    (pidSetEn on s).cfg = s.cfg ∧ (pidSetEn on s).now = s.now ∧ (pidSetEn on s).pump = s.pump ∧
    (pidSetEn on s).heater = s.heater ∧ (pidSetEn on s).valve = s.valve ∧
    (pidSetEn on s).shot = s.shot ∧ (pidSetEn on s).pre = s.pre ∧ (pidSetEn on s).wc = s.wc ∧
    (pidSetEn on s).err = s.err ∧ (pidSetEn on s).tele = s.tele ∧
    (pidSetEn on s).sensors = s.sensors ∧ (pidSetEn on s).rsp = s.rsp ∧
    (pidSetEn on s).feed = s.feed ∧ (pidSetEn on s).freeIdx = s.freeIdx := by
  simp [pidSetEn]

@[simp] theorem pidStart_keeps (s : State) :
    (pidStart s).cfg = s.cfg ∧ (pidStart s).now = s.now ∧ (pidStart s).pump = s.pump ∧
    (pidStart s).valve = s.valve ∧ (pidStart s).shot = s.shot ∧ (pidStart s).pre = s.pre ∧
    (pidStart s).wc = s.wc ∧ (pidStart s).tele = s.tele ∧ (pidStart s).sensors = s.sensors ∧
    (pidStart s).rsp = s.rsp ∧ (pidStart s).feed = s.feed ∧ (pidStart s).freeIdx = s.freeIdx := by
  simp [pidStart]

@[simp] theorem pidStop_keeps (s : State) :
    (pidStop s).cfg = s.cfg ∧ (pidStop s).now = s.now ∧ (pidStop s).pump = s.pump ∧
    (pidStop s).valve = s.valve ∧ (pidStop s).shot = s.shot ∧ (pidStop s).pre = s.pre ∧
    (pidStop s).wc = s.wc ∧ (pidStop s).tele = s.tele ∧ (pidStop s).sensors = s.sensors ∧
    (pidStop s).rsp = s.rsp ∧ (pidStop s).feed = s.feed ∧ (pidStop s).freeIdx = s.freeIdx := by
  simp [pidStop]

@[simp] theorem pidPublish_keeps (pv : Rat) (s0 : State) (s : State) :
    (pidPublish pv s0 s).cfg = s.cfg ∧ (pidPublish pv s0 s).now = s.now ∧
    (pidPublish pv s0 s).pump = s.pump ∧ (pidPublish pv s0 s).heater = s.heater ∧
    (pidPublish pv s0 s).valve = s.valve ∧ (pidPublish pv s0 s).pid = s.pid ∧
    (pidPublish pv s0 s).shot = s.shot ∧ (pidPublish pv s0 s).pre = s.pre ∧
    (pidPublish pv s0 s).wc = s.wc ∧ (pidPublish pv s0 s).err = s.err ∧
    (pidPublish pv s0 s).sensors = s.sensors ∧ (pidPublish pv s0 s).rsp = s.rsp ∧
    (pidPublish pv s0 s).feed = s.feed ∧ (pidPublish pv s0 s).freeIdx = s.freeIdx := by
  simp [pidPublish]

@[simp] theorem pidCycleAt_keeps (pv : Rat) (s : State) :
    (pidCycleAt pv s).cfg = s.cfg ∧ (pidCycleAt pv s).now = s.now ∧
    (pidCycleAt pv s).pump = s.pump ∧ (pidCycleAt pv s).valve = s.valve ∧
    (pidCycleAt pv s).shot = s.shot ∧ (pidCycleAt pv s).pre = s.pre ∧
    (pidCycleAt pv s).wc = s.wc ∧ (pidCycleAt pv s).sensors = s.sensors ∧
    (pidCycleAt pv s).rsp = s.rsp ∧ (pidCycleAt pv s).feed = s.feed ∧
    (pidCycleAt pv s).freeIdx = s.freeIdx := by
  simp [pidCycleAt]

@[simp] theorem pidCycle_keeps (s : State) :
    (pidCycle s).cfg = s.cfg ∧ (pidCycle s).now = s.now ∧ (pidCycle s).pump = s.pump ∧
    (pidCycle s).valve = s.valve ∧ (pidCycle s).shot = s.shot ∧ (pidCycle s).pre = s.pre ∧
    (pidCycle s).wc = s.wc ∧ (pidCycle s).sensors = s.sensors ∧ (pidCycle s).rsp = s.rsp ∧
    (pidCycle s).feed = s.feed ∧ (pidCycle s).freeIdx = s.freeIdx := by
  unfold pidCycle; split <;> simp

@[simp] theorem shotArmAt_keeps (x : Int) (s : State) :
    (shotArmAt x s).cfg = s.cfg ∧ (shotArmAt x s).now = s.now ∧ (shotArmAt x s).pump = s.pump ∧
    (shotArmAt x s).heater = s.heater ∧ (shotArmAt x s).valve = s.valve ∧
    (shotArmAt x s).pid = s.pid ∧ (shotArmAt x s).pre = s.pre ∧ (shotArmAt x s).wc = s.wc ∧
    (shotArmAt x s).err = s.err ∧ (shotArmAt x s).tele = s.tele ∧
    (shotArmAt x s).sensors = s.sensors ∧ (shotArmAt x s).rsp = s.rsp ∧
    (shotArmAt x s).feed = s.feed := by
  simp [shotArmAt]

@[simp] theorem shotArm_keeps (delta : Int) (s : State) :
    (shotArm delta s).cfg = s.cfg ∧ (shotArm delta s).now = s.now ∧
    (shotArm delta s).pump = s.pump ∧ (shotArm delta s).heater = s.heater ∧
    (shotArm delta s).valve = s.valve ∧ (shotArm delta s).pid = s.pid ∧
    (shotArm delta s).pre = s.pre ∧ (shotArm delta s).wc = s.wc ∧ (shotArm delta s).err = s.err ∧
    (shotArm delta s).tele = s.tele ∧ (shotArm delta s).sensors = s.sensors ∧
    (shotArm delta s).rsp = s.rsp ∧ (shotArm delta s).feed = s.feed := by
  simp [shotArm]

@[simp] theorem shotArmRamp_keeps (s : State) :
    (shotArmRamp s).cfg = s.cfg ∧ (shotArmRamp s).now = s.now ∧ (shotArmRamp s).pump = s.pump ∧
    (shotArmRamp s).heater = s.heater ∧ (shotArmRamp s).valve = s.valve ∧
    (shotArmRamp s).pid = s.pid ∧ (shotArmRamp s).pre = s.pre ∧ (shotArmRamp s).wc = s.wc ∧
    (shotArmRamp s).err = s.err ∧ (shotArmRamp s).tele = s.tele ∧
    (shotArmRamp s).sensors = s.sensors ∧ (shotArmRamp s).rsp = s.rsp ∧
    (shotArmRamp s).feed = s.feed := by
  simp [shotArmRamp]

@[simp] theorem shotDisarm_keeps (s : State) :
    (shotDisarm s).cfg = s.cfg ∧ (shotDisarm s).now = s.now ∧ (shotDisarm s).pump = s.pump ∧
    (shotDisarm s).heater = s.heater ∧ (shotDisarm s).valve = s.valve ∧
    (shotDisarm s).pid = s.pid ∧ (shotDisarm s).pre = s.pre ∧ (shotDisarm s).wc = s.wc ∧
    (shotDisarm s).err = s.err ∧ (shotDisarm s).tele = s.tele ∧
    (shotDisarm s).sensors = s.sensors ∧ (shotDisarm s).rsp = s.rsp ∧
    (shotDisarm s).feed = s.feed ∧ (shotDisarm s).freeIdx = s.freeIdx := by
  simp [shotDisarm]

@[simp] theorem shotEnter_keeps (g : ShotStage) (s : State) :
    (shotEnter g s).cfg = s.cfg ∧ (shotEnter g s).now = s.now ∧ (shotEnter g s).pump = s.pump ∧
    (shotEnter g s).heater = s.heater ∧ (shotEnter g s).valve = s.valve ∧
    (shotEnter g s).pid = s.pid ∧ (shotEnter g s).pre = s.pre ∧ (shotEnter g s).wc = s.wc ∧
    (shotEnter g s).err = s.err ∧ (shotEnter g s).tele = s.tele ∧
    (shotEnter g s).sensors = s.sensors ∧ (shotEnter g s).rsp = s.rsp ∧
    (shotEnter g s).feed = s.feed ∧ (shotEnter g s).freeIdx = s.freeIdx := by
  simp [shotEnter]

@[simp] theorem shotLoad_keeps (f r z : Millis) (a b : Percent) (s : State) :
    (shotLoad f r z a b s).cfg = s.cfg ∧ (shotLoad f r z a b s).now = s.now ∧
    (shotLoad f r z a b s).pump = s.pump ∧ (shotLoad f r z a b s).heater = s.heater ∧
    (shotLoad f r z a b s).valve = s.valve ∧ (shotLoad f r z a b s).pid = s.pid ∧
    (shotLoad f r z a b s).pre = s.pre ∧ (shotLoad f r z a b s).wc = s.wc ∧
    (shotLoad f r z a b s).err = s.err ∧ (shotLoad f r z a b s).tele = s.tele ∧
    (shotLoad f r z a b s).sensors = s.sensors ∧ (shotLoad f r z a b s).rsp = s.rsp ∧
    (shotLoad f r z a b s).feed = s.feed ∧ (shotLoad f r z a b s).freeIdx = s.freeIdx := by
  simp [shotLoad]

@[simp] theorem shotActivate_keeps (s : State) :
    (shotActivate s).cfg = s.cfg ∧ (shotActivate s).now = s.now ∧ (shotActivate s).pump = s.pump ∧
    (shotActivate s).heater = s.heater ∧ (shotActivate s).valve = s.valve ∧
    (shotActivate s).pid = s.pid ∧ (shotActivate s).pre = s.pre ∧ (shotActivate s).wc = s.wc ∧
    (shotActivate s).err = s.err ∧ (shotActivate s).tele = s.tele ∧
    (shotActivate s).sensors = s.sensors ∧ (shotActivate s).rsp = s.rsp ∧
    (shotActivate s).feed = s.feed ∧ (shotActivate s).freeIdx = s.freeIdx := by
  simp [shotActivate]

@[simp] theorem shotAccept_keeps (f r z : Millis) (a b : Percent) (s : State) :
    (shotAccept f r z a b s).cfg = s.cfg ∧ (shotAccept f r z a b s).now = s.now ∧
    (shotAccept f r z a b s).heater = s.heater ∧ (shotAccept f r z a b s).pid = s.pid ∧
    (shotAccept f r z a b s).pre = s.pre ∧ (shotAccept f r z a b s).wc = s.wc ∧
    (shotAccept f r z a b s).err = s.err ∧ (shotAccept f r z a b s).tele = s.tele ∧
    (shotAccept f r z a b s).sensors = s.sensors ∧ (shotAccept f r z a b s).rsp = s.rsp ∧
    (shotAccept f r z a b s).feed = s.feed := by
  simp [shotAccept]

@[simp] theorem shotStart_keeps (f r z : Millis) (a b : Percent) (s : State) :
    (shotStart f r z a b s).cfg = s.cfg ∧ (shotStart f r z a b s).now = s.now ∧
    (shotStart f r z a b s).heater = s.heater ∧ (shotStart f r z a b s).pid = s.pid ∧
    (shotStart f r z a b s).pre = s.pre ∧ (shotStart f r z a b s).wc = s.wc ∧
    (shotStart f r z a b s).tele = s.tele ∧ (shotStart f r z a b s).sensors = s.sensors ∧
    (shotStart f r z a b s).rsp = s.rsp ∧ (shotStart f r z a b s).feed = s.feed := by
  unfold shotStart; split <;> (try split) <;> simp

@[simp] theorem shotStampStart_keeps (s : State) :
    (shotStampStart s).cfg = s.cfg ∧ (shotStampStart s).now = s.now ∧
    (shotStampStart s).pump = s.pump ∧ (shotStampStart s).heater = s.heater ∧
    (shotStampStart s).valve = s.valve ∧ (shotStampStart s).pid = s.pid ∧
    (shotStampStart s).pre = s.pre ∧ (shotStampStart s).wc = s.wc ∧
    (shotStampStart s).err = s.err ∧ (shotStampStart s).tele = s.tele ∧
    (shotStampStart s).sensors = s.sensors ∧ (shotStampStart s).rsp = s.rsp ∧
    (shotStampStart s).feed = s.feed ∧ (shotStampStart s).freeIdx = s.freeIdx := by
  simp [shotStampStart]

@[simp] theorem shotOverride_keeps (s : State) :
    (shotOverride s).cfg = s.cfg ∧ (shotOverride s).now = s.now ∧ (shotOverride s).pump = s.pump ∧
    (shotOverride s).heater = s.heater ∧ (shotOverride s).valve = s.valve ∧
    (shotOverride s).shot = s.shot ∧ (shotOverride s).pre = s.pre ∧ (shotOverride s).wc = s.wc ∧
    (shotOverride s).err = s.err ∧ (shotOverride s).tele = s.tele ∧
    (shotOverride s).sensors = s.sensors ∧ (shotOverride s).rsp = s.rsp ∧
    (shotOverride s).feed = s.feed ∧ (shotOverride s).freeIdx = s.freeIdx := by
  simp [shotOverride]

@[simp] theorem shotEnterFull_keeps (s : State) :
    (shotEnterFull s).cfg = s.cfg ∧ (shotEnterFull s).now = s.now ∧
    (shotEnterFull s).heater = s.heater ∧ (shotEnterFull s).valve = s.valve ∧
    (shotEnterFull s).pre = s.pre ∧ (shotEnterFull s).wc = s.wc ∧ (shotEnterFull s).err = s.err ∧
    (shotEnterFull s).tele = s.tele ∧ (shotEnterFull s).sensors = s.sensors ∧
    (shotEnterFull s).rsp = s.rsp ∧ (shotEnterFull s).feed = s.feed ∧
    (shotEnterFull s).freeIdx = s.freeIdx := by
  simp [shotEnterFull]

@[simp] theorem shotAfterRamp_keeps (s : State) :
    (shotAfterRamp s).cfg = s.cfg ∧ (shotAfterRamp s).now = s.now ∧
    (shotAfterRamp s).heater = s.heater ∧ (shotAfterRamp s).valve = s.valve ∧
    (shotAfterRamp s).pre = s.pre ∧ (shotAfterRamp s).wc = s.wc ∧ (shotAfterRamp s).err = s.err ∧
    (shotAfterRamp s).tele = s.tele ∧ (shotAfterRamp s).sensors = s.sensors ∧
    (shotAfterRamp s).rsp = s.rsp ∧ (shotAfterRamp s).feed = s.feed := by
  unfold shotAfterRamp; split <;> simp

@[simp] theorem shotSetCur_keeps (x : Int) (s : State) :
    (shotSetCur x s).cfg = s.cfg ∧ (shotSetCur x s).now = s.now ∧ (shotSetCur x s).pump = s.pump ∧
    (shotSetCur x s).heater = s.heater ∧ (shotSetCur x s).valve = s.valve ∧
    (shotSetCur x s).pid = s.pid ∧ (shotSetCur x s).pre = s.pre ∧ (shotSetCur x s).wc = s.wc ∧
    (shotSetCur x s).err = s.err ∧ (shotSetCur x s).tele = s.tele ∧
    (shotSetCur x s).sensors = s.sensors ∧ (shotSetCur x s).rsp = s.rsp ∧
    (shotSetCur x s).feed = s.feed := by
  simp [shotSetCur]

@[simp] theorem shotFireInitFill_keeps (s : State) :
    (shotFireInitFill s).cfg = s.cfg ∧ (shotFireInitFill s).now = s.now ∧
    (shotFireInitFill s).heater = s.heater ∧ (shotFireInitFill s).valve = s.valve ∧
    (shotFireInitFill s).pid = s.pid ∧ (shotFireInitFill s).pre = s.pre ∧
    (shotFireInitFill s).wc = s.wc ∧ (shotFireInitFill s).err = s.err ∧
    (shotFireInitFill s).tele = s.tele ∧ (shotFireInitFill s).sensors = s.sensors ∧
    (shotFireInitFill s).rsp = s.rsp ∧ (shotFireInitFill s).feed = s.feed := by
  simp [shotFireInitFill]

@[simp] theorem shotStepOverride_keeps (s : State) :
    (shotStepOverride s).cfg = s.cfg ∧ (shotStepOverride s).now = s.now ∧
    (shotStepOverride s).pump = s.pump ∧ (shotStepOverride s).heater = s.heater ∧
    (shotStepOverride s).valve = s.valve ∧ (shotStepOverride s).shot = s.shot ∧
    (shotStepOverride s).pre = s.pre ∧ (shotStepOverride s).wc = s.wc ∧
    (shotStepOverride s).err = s.err ∧ (shotStepOverride s).tele = s.tele ∧
    (shotStepOverride s).sensors = s.sensors ∧ (shotStepOverride s).rsp = s.rsp ∧
    (shotStepOverride s).feed = s.feed ∧ (shotStepOverride s).freeIdx = s.freeIdx := by
  unfold shotStepOverride; split <;> simp

@[simp] theorem shotStepCur_keeps (s : State) :
    (shotStepCur s).cfg = s.cfg ∧ (shotStepCur s).now = s.now ∧ (shotStepCur s).pump = s.pump ∧
    (shotStepCur s).heater = s.heater ∧ (shotStepCur s).valve = s.valve ∧
    (shotStepCur s).pid = s.pid ∧ (shotStepCur s).pre = s.pre ∧ (shotStepCur s).wc = s.wc ∧
    (shotStepCur s).err = s.err ∧ (shotStepCur s).tele = s.tele ∧
    (shotStepCur s).sensors = s.sensors ∧ (shotStepCur s).rsp = s.rsp ∧
    (shotStepCur s).feed = s.feed := by
  simp [shotStepCur]

@[simp] theorem shotRampStep_keeps (s : State) :
    (shotRampStep s).cfg = s.cfg ∧ (shotRampStep s).now = s.now ∧
    (shotRampStep s).heater = s.heater ∧ (shotRampStep s).valve = s.valve ∧
    (shotRampStep s).pre = s.pre ∧ (shotRampStep s).wc = s.wc ∧ (shotRampStep s).err = s.err ∧
    (shotRampStep s).tele = s.tele ∧ (shotRampStep s).sensors = s.sensors ∧
    (shotRampStep s).rsp = s.rsp ∧ (shotRampStep s).feed = s.feed := by
  simp [shotRampStep]

@[simp] theorem shotFireRamp_keeps (s : State) :
    (shotFireRamp s).cfg = s.cfg ∧ (shotFireRamp s).now = s.now ∧
    (shotFireRamp s).heater = s.heater ∧ (shotFireRamp s).valve = s.valve ∧
    (shotFireRamp s).pre = s.pre ∧ (shotFireRamp s).wc = s.wc ∧ (shotFireRamp s).err = s.err ∧
    (shotFireRamp s).tele = s.tele ∧ (shotFireRamp s).sensors = s.sensors ∧
    (shotFireRamp s).rsp = s.rsp ∧ (shotFireRamp s).feed = s.feed := by
  unfold shotFireRamp; split <;> simp

@[simp] theorem shotFireStage_keeps (s : State) :
    (shotFireStage s).cfg = s.cfg ∧ (shotFireStage s).now = s.now ∧
    (shotFireStage s).heater = s.heater ∧ (shotFireStage s).valve = s.valve ∧
    (shotFireStage s).pre = s.pre ∧ (shotFireStage s).wc = s.wc ∧ (shotFireStage s).err = s.err ∧
    (shotFireStage s).tele = s.tele ∧ (shotFireStage s).sensors = s.sensors ∧
    (shotFireStage s).rsp = s.rsp ∧ (shotFireStage s).feed = s.feed := by
  unfold shotFireStage; split <;> simp

@[simp] theorem shotTimerFire_keeps (s : State) :
    (shotTimerFire s).cfg = s.cfg ∧ (shotTimerFire s).now = s.now ∧
    (shotTimerFire s).heater = s.heater ∧ (shotTimerFire s).valve = s.valve ∧
    (shotTimerFire s).pre = s.pre ∧ (shotTimerFire s).wc = s.wc ∧ (shotTimerFire s).err = s.err ∧
    (shotTimerFire s).tele = s.tele ∧ (shotTimerFire s).sensors = s.sensors ∧
    (shotTimerFire s).rsp = s.rsp ∧ (shotTimerFire s).feed = s.feed := by
  unfold shotTimerFire; split <;> simp

@[simp] theorem shotDeactivate_keeps (s : State) :
    (shotDeactivate s).cfg = s.cfg ∧ (shotDeactivate s).now = s.now ∧
    (shotDeactivate s).pump = s.pump ∧ (shotDeactivate s).heater = s.heater ∧
    (shotDeactivate s).valve = s.valve ∧ (shotDeactivate s).pid = s.pid ∧
    (shotDeactivate s).pre = s.pre ∧ (shotDeactivate s).wc = s.wc ∧
    (shotDeactivate s).err = s.err ∧ (shotDeactivate s).tele = s.tele ∧
    (shotDeactivate s).sensors = s.sensors ∧ (shotDeactivate s).rsp = s.rsp ∧
    (shotDeactivate s).feed = s.feed ∧ (shotDeactivate s).freeIdx = s.freeIdx := by
  simp [shotDeactivate]

@[simp] theorem shotStop_keeps (p : Percent) (v : Bool) (s : State) :
    (shotStop p v s).cfg = s.cfg ∧ (shotStop p v s).now = s.now ∧
    (shotStop p v s).heater = s.heater ∧ (shotStop p v s).pid = s.pid ∧
    (shotStop p v s).pre = s.pre ∧ (shotStop p v s).wc = s.wc ∧ (shotStop p v s).err = s.err ∧
    (shotStop p v s).tele = s.tele ∧ (shotStop p v s).sensors = s.sensors ∧
    (shotStop p v s).rsp = s.rsp ∧ (shotStop p v s).feed = s.feed ∧
    (shotStop p v s).freeIdx = s.freeIdx := by
  unfold shotStop; split <;> simp

@[simp] theorem preArmAt_keeps (x : Int) (s : State) :
    (preArmAt x s).cfg = s.cfg ∧ (preArmAt x s).now = s.now ∧ (preArmAt x s).pump = s.pump ∧
    (preArmAt x s).heater = s.heater ∧ (preArmAt x s).valve = s.valve ∧
    (preArmAt x s).pid = s.pid ∧ (preArmAt x s).shot = s.shot ∧ (preArmAt x s).wc = s.wc ∧
    (preArmAt x s).err = s.err ∧ (preArmAt x s).tele = s.tele ∧
    (preArmAt x s).sensors = s.sensors ∧ (preArmAt x s).rsp = s.rsp ∧ (preArmAt x s).feed = s.feed := by
  simp [preArmAt]

@[simp] theorem preArm_keeps (delta : Millis) (s : State) :
    (preArm delta s).cfg = s.cfg ∧ (preArm delta s).now = s.now ∧ (preArm delta s).pump = s.pump ∧
    (preArm delta s).heater = s.heater ∧ (preArm delta s).valve = s.valve ∧
    (preArm delta s).pid = s.pid ∧ (preArm delta s).shot = s.shot ∧ (preArm delta s).wc = s.wc ∧
    (preArm delta s).err = s.err ∧ (preArm delta s).tele = s.tele ∧
    (preArm delta s).sensors = s.sensors ∧ (preArm delta s).rsp = s.rsp ∧
    (preArm delta s).feed = s.feed := by
  simp [preArm]

@[simp] theorem preDisarm_keeps (s : State) :
    (preDisarm s).cfg = s.cfg ∧ (preDisarm s).now = s.now ∧ (preDisarm s).pump = s.pump ∧
    (preDisarm s).heater = s.heater ∧ (preDisarm s).valve = s.valve ∧ (preDisarm s).pid = s.pid ∧
    (preDisarm s).shot = s.shot ∧ (preDisarm s).wc = s.wc ∧ (preDisarm s).err = s.err ∧
    (preDisarm s).tele = s.tele ∧ (preDisarm s).sensors = s.sensors ∧ (preDisarm s).rsp = s.rsp ∧
    (preDisarm s).feed = s.feed ∧ (preDisarm s).freeIdx = s.freeIdx := by
  simp [preDisarm]

@[simp] theorem preEnter_keeps (g : PreStage) (s : State) :
    (preEnter g s).cfg = s.cfg ∧ (preEnter g s).now = s.now ∧ (preEnter g s).pump = s.pump ∧
    (preEnter g s).heater = s.heater ∧ (preEnter g s).valve = s.valve ∧
    (preEnter g s).pid = s.pid ∧ (preEnter g s).shot = s.shot ∧ (preEnter g s).wc = s.wc ∧
    (preEnter g s).err = s.err ∧ (preEnter g s).tele = s.tele ∧
    (preEnter g s).sensors = s.sensors ∧ (preEnter g s).rsp = s.rsp ∧
    (preEnter g s).feed = s.feed ∧ (preEnter g s).freeIdx = s.freeIdx := by
  simp [preEnter]

@[simp] theorem preLoad_keeps (a b c : Millis) (s : State) :
    (preLoad a b c s).cfg = s.cfg ∧ (preLoad a b c s).now = s.now ∧
    (preLoad a b c s).pump = s.pump ∧ (preLoad a b c s).heater = s.heater ∧
    (preLoad a b c s).valve = s.valve ∧ (preLoad a b c s).pid = s.pid ∧
    (preLoad a b c s).shot = s.shot ∧ (preLoad a b c s).wc = s.wc ∧
    (preLoad a b c s).err = s.err ∧ (preLoad a b c s).tele = s.tele ∧
    (preLoad a b c s).sensors = s.sensors ∧ (preLoad a b c s).rsp = s.rsp ∧
    (preLoad a b c s).feed = s.feed ∧ (preLoad a b c s).freeIdx = s.freeIdx := by
  simp [preLoad]

@[simp] theorem preRest_keeps (s : State) :
    (preRest s).cfg = s.cfg ∧ (preRest s).now = s.now ∧ (preRest s).heater = s.heater ∧
    (preRest s).pid = s.pid ∧ (preRest s).shot = s.shot ∧ (preRest s).pre = s.pre ∧
    (preRest s).wc = s.wc ∧ (preRest s).err = s.err ∧ (preRest s).tele = s.tele ∧
    (preRest s).sensors = s.sensors ∧ (preRest s).rsp = s.rsp ∧ (preRest s).feed = s.feed ∧
    (preRest s).freeIdx = s.freeIdx := by
  simp [preRest]

@[simp] theorem preheatEnterPumpOn_keeps (s : State) :
    (preheatEnterPumpOn s).cfg = s.cfg ∧ (preheatEnterPumpOn s).now = s.now ∧
    (preheatEnterPumpOn s).heater = s.heater ∧ (preheatEnterPumpOn s).pid = s.pid ∧
    (preheatEnterPumpOn s).shot = s.shot ∧ (preheatEnterPumpOn s).wc = s.wc ∧
    (preheatEnterPumpOn s).err = s.err ∧ (preheatEnterPumpOn s).tele = s.tele ∧
    (preheatEnterPumpOn s).sensors = s.sensors ∧ (preheatEnterPumpOn s).rsp = s.rsp ∧
    (preheatEnterPumpOn s).feed = s.feed := by
  simp [preheatEnterPumpOn]

@[simp] theorem preFirePumpOn_keeps (s : State) :
    (preFirePumpOn s).cfg = s.cfg ∧ (preFirePumpOn s).now = s.now ∧
    (preFirePumpOn s).heater = s.heater ∧ (preFirePumpOn s).pid = s.pid ∧
    (preFirePumpOn s).shot = s.shot ∧ (preFirePumpOn s).wc = s.wc ∧
    (preFirePumpOn s).err = s.err ∧ (preFirePumpOn s).tele = s.tele ∧
    (preFirePumpOn s).sensors = s.sensors ∧ (preFirePumpOn s).rsp = s.rsp ∧
    (preFirePumpOn s).feed = s.feed := by
  simp [preFirePumpOn]

@[simp] theorem preFireHold_keeps (s : State) :
    (preFireHold s).cfg = s.cfg ∧ (preFireHold s).now = s.now ∧
    (preFireHold s).heater = s.heater ∧ (preFireHold s).pid = s.pid ∧
    (preFireHold s).shot = s.shot ∧ (preFireHold s).wc = s.wc ∧ (preFireHold s).err = s.err ∧
    (preFireHold s).tele = s.tele ∧ (preFireHold s).sensors = s.sensors ∧
    (preFireHold s).rsp = s.rsp ∧ (preFireHold s).feed = s.feed := by
  simp [preFireHold]

@[simp] theorem preFireStage_keeps (s : State) :
    (preFireStage s).cfg = s.cfg ∧ (preFireStage s).now = s.now ∧
    (preFireStage s).heater = s.heater ∧ (preFireStage s).pid = s.pid ∧
    (preFireStage s).shot = s.shot ∧ (preFireStage s).wc = s.wc ∧ (preFireStage s).err = s.err ∧
    (preFireStage s).tele = s.tele ∧ (preFireStage s).sensors = s.sensors ∧
    (preFireStage s).rsp = s.rsp ∧ (preFireStage s).feed = s.feed := by
  unfold preFireStage; split <;> simp

@[simp] theorem preheatTimerFire_keeps (s : State) :
    (preheatTimerFire s).cfg = s.cfg ∧ (preheatTimerFire s).now = s.now ∧
    (preheatTimerFire s).heater = s.heater ∧ (preheatTimerFire s).pid = s.pid ∧
    (preheatTimerFire s).shot = s.shot ∧ (preheatTimerFire s).wc = s.wc ∧
    (preheatTimerFire s).err = s.err ∧ (preheatTimerFire s).tele = s.tele ∧
    (preheatTimerFire s).sensors = s.sensors ∧ (preheatTimerFire s).rsp = s.rsp ∧
    (preheatTimerFire s).feed = s.feed := by
  simp [preheatTimerFire]

@[simp] theorem preheatStart_keeps (a b c : Millis) (s : State) :
    (preheatStart a b c s).cfg = s.cfg ∧ (preheatStart a b c s).now = s.now ∧
    (preheatStart a b c s).heater = s.heater ∧ (preheatStart a b c s).pid = s.pid ∧
    (preheatStart a b c s).shot = s.shot ∧ (preheatStart a b c s).wc = s.wc ∧
    (preheatStart a b c s).tele = s.tele ∧ (preheatStart a b c s).sensors = s.sensors ∧
    (preheatStart a b c s).rsp = s.rsp ∧ (preheatStart a b c s).feed = s.feed := by
  unfold preheatStart; split <;> (try split) <;> simp

@[simp] theorem preheatStop_keeps (p : Percent) (v : Bool) (s : State) :
    (preheatStop p v s).cfg = s.cfg ∧ (preheatStop p v s).now = s.now ∧
    (preheatStop p v s).heater = s.heater ∧ (preheatStop p v s).pid = s.pid ∧
    (preheatStop p v s).shot = s.shot ∧ (preheatStop p v s).wc = s.wc ∧
    (preheatStop p v s).err = s.err ∧ (preheatStop p v s).tele = s.tele ∧
    (preheatStop p v s).sensors = s.sensors ∧ (preheatStop p v s).rsp = s.rsp ∧
    (preheatStop p v s).feed = s.feed ∧ (preheatStop p v s).freeIdx = s.freeIdx := by
  simp [preheatStop]

@[simp] theorem expireOverride_keeps (s : State) :
    (expireOverride s).cfg = s.cfg ∧ (expireOverride s).now = s.now ∧
    (expireOverride s).pump = s.pump ∧ (expireOverride s).heater = s.heater ∧
    (expireOverride s).valve = s.valve ∧ (expireOverride s).pid = s.pid ∧
    (expireOverride s).shot = s.shot ∧ (expireOverride s).pre = s.pre ∧
    (expireOverride s).err = s.err ∧ (expireOverride s).tele = s.tele ∧
    (expireOverride s).sensors = s.sensors ∧ (expireOverride s).rsp = s.rsp ∧
    (expireOverride s).feed = s.feed ∧ (expireOverride s).freeIdx = s.freeIdx := by
  unfold expireOverride; split <;> simp

@[simp] theorem setWcMode_keeps (m : WcMode) (s : State) :
    (setWcMode m s).cfg = s.cfg ∧ (setWcMode m s).now = s.now ∧ (setWcMode m s).pump = s.pump ∧
    (setWcMode m s).heater = s.heater ∧ (setWcMode m s).valve = s.valve ∧
    (setWcMode m s).pid = s.pid ∧ (setWcMode m s).shot = s.shot ∧ (setWcMode m s).pre = s.pre ∧
    (setWcMode m s).err = s.err ∧ (setWcMode m s).tele = s.tele ∧
    (setWcMode m s).sensors = s.sensors ∧ (setWcMode m s).rsp = s.rsp ∧
    (setWcMode m s).feed = s.feed ∧ (setWcMode m s).freeIdx = s.freeIdx := by
  simp [setWcMode]

@[simp] theorem stopSequencers_keeps (p : Percent) (v : Bool) (s : State) :
    (stopSequencers p v s).cfg = s.cfg ∧ (stopSequencers p v s).now = s.now ∧
    (stopSequencers p v s).heater = s.heater ∧ (stopSequencers p v s).pid = s.pid ∧
    (stopSequencers p v s).wc = s.wc ∧ (stopSequencers p v s).err = s.err ∧
    (stopSequencers p v s).tele = s.tele ∧ (stopSequencers p v s).sensors = s.sensors ∧
    (stopSequencers p v s).rsp = s.rsp ∧ (stopSequencers p v s).feed = s.feed ∧
    (stopSequencers p v s).freeIdx = s.freeIdx := by
  simp [stopSequencers]

@[simp] theorem wcStop_keeps (p : Percent) (v : Bool) (m : WcMode) (s : State) :
    (wcStop p v m s).cfg = s.cfg ∧ (wcStop p v m s).now = s.now ∧
    (wcStop p v m s).heater = s.heater ∧ (wcStop p v m s).pid = s.pid ∧
    (wcStop p v m s).err = s.err ∧ (wcStop p v m s).tele = s.tele ∧
    (wcStop p v m s).sensors = s.sensors ∧ (wcStop p v m s).rsp = s.rsp ∧
    (wcStop p v m s).feed = s.feed ∧ (wcStop p v m s).freeIdx = s.freeIdx := by
  simp [wcStop]

@[simp] theorem flowKeepStop_keeps (m : WcMode) (s : State) :
    (flowKeepStop m s).cfg = s.cfg ∧ (flowKeepStop m s).now = s.now ∧
    (flowKeepStop m s).heater = s.heater ∧ (flowKeepStop m s).pid = s.pid ∧
    (flowKeepStop m s).err = s.err ∧ (flowKeepStop m s).tele = s.tele ∧
    (flowKeepStop m s).sensors = s.sensors ∧ (flowKeepStop m s).rsp = s.rsp ∧
    (flowKeepStop m s).feed = s.feed ∧ (flowKeepStop m s).freeIdx = s.freeIdx := by
  simp [flowKeepStop]

@[simp] theorem enableUnits_keeps (s : State) :
    (enableUnits s).cfg = s.cfg ∧ (enableUnits s).now = s.now ∧ (enableUnits s).pid = s.pid ∧
    (enableUnits s).shot = s.shot ∧ (enableUnits s).pre = s.pre ∧ (enableUnits s).wc = s.wc ∧
    (enableUnits s).err = s.err ∧ (enableUnits s).tele = s.tele ∧
    (enableUnits s).sensors = s.sensors ∧ (enableUnits s).rsp = s.rsp ∧
    (enableUnits s).feed = s.feed ∧ (enableUnits s).freeIdx = s.freeIdx := by
  simp [enableUnits]

@[simp] theorem disableUnits_keeps (s : State) :
    (disableUnits s).cfg = s.cfg ∧ (disableUnits s).now = s.now ∧ (disableUnits s).pid = s.pid ∧
    (disableUnits s).shot = s.shot ∧ (disableUnits s).pre = s.pre ∧ (disableUnits s).wc = s.wc ∧
    (disableUnits s).err = s.err ∧ (disableUnits s).tele = s.tele ∧
    (disableUnits s).sensors = s.sensors ∧ (disableUnits s).rsp = s.rsp ∧
    (disableUnits s).feed = s.feed ∧ (disableUnits s).freeIdx = s.freeIdx := by
  simp [disableUnits]

@[simp] theorem brewTarget_keeps (s : State) :
    (brewTarget s).cfg = s.cfg ∧ (brewTarget s).now = s.now ∧ (brewTarget s).pump = s.pump ∧
    (brewTarget s).heater = s.heater ∧ (brewTarget s).valve = s.valve ∧
    (brewTarget s).shot = s.shot ∧ (brewTarget s).pre = s.pre ∧ (brewTarget s).wc = s.wc ∧
    (brewTarget s).err = s.err ∧ (brewTarget s).tele = s.tele ∧
    (brewTarget s).sensors = s.sensors ∧ (brewTarget s).rsp = s.rsp ∧
    (brewTarget s).feed = s.feed ∧ (brewTarget s).freeIdx = s.freeIdx := by
  simp [brewTarget]

@[simp] theorem shotStartConfigured_keeps (s : State) :
    (shotStartConfigured s).cfg = s.cfg ∧ (shotStartConfigured s).now = s.now ∧
    (shotStartConfigured s).heater = s.heater ∧ (shotStartConfigured s).pid = s.pid ∧
    (shotStartConfigured s).pre = s.pre ∧ (shotStartConfigured s).wc = s.wc ∧
    (shotStartConfigured s).tele = s.tele ∧ (shotStartConfigured s).sensors = s.sensors ∧
    (shotStartConfigured s).rsp = s.rsp ∧ (shotStartConfigured s).feed = s.feed := by
  simp [shotStartConfigured]

@[simp] theorem preheatStartConfigured_keeps (s : State) :
    (preheatStartConfigured s).cfg = s.cfg ∧ (preheatStartConfigured s).now = s.now ∧
    (preheatStartConfigured s).heater = s.heater ∧ (preheatStartConfigured s).pid = s.pid ∧
    (preheatStartConfigured s).shot = s.shot ∧ (preheatStartConfigured s).wc = s.wc ∧
    (preheatStartConfigured s).tele = s.tele ∧ (preheatStartConfigured s).sensors = s.sensors ∧
    (preheatStartConfigured s).rsp = s.rsp ∧ (preheatStartConfigured s).feed = s.feed := by
  simp [preheatStartConfigured]

@[simp] theorem runHeaterTick_keeps (s : State) :
    (runHeaterTick s).cfg = s.cfg ∧ (runHeaterTick s).now = s.now ∧
    (runHeaterTick s).pump = s.pump ∧ (runHeaterTick s).valve = s.valve ∧
    (runHeaterTick s).pid = s.pid ∧ (runHeaterTick s).shot = s.shot ∧
    (runHeaterTick s).pre = s.pre ∧ (runHeaterTick s).wc = s.wc ∧ (runHeaterTick s).err = s.err ∧
    (runHeaterTick s).tele = s.tele ∧ (runHeaterTick s).sensors = s.sensors ∧
    (runHeaterTick s).rsp = s.rsp ∧ (runHeaterTick s).feed = s.feed ∧
    (runHeaterTick s).freeIdx = s.freeIdx := by
  unfold runHeaterTick; split <;> simp

@[simp] theorem runPumpTick_keeps (s : State) :
    (runPumpTick s).cfg = s.cfg ∧ (runPumpTick s).now = s.now ∧
    (runPumpTick s).heater = s.heater ∧ (runPumpTick s).valve = s.valve ∧
    (runPumpTick s).pid = s.pid ∧ (runPumpTick s).shot = s.shot ∧ (runPumpTick s).pre = s.pre ∧
    (runPumpTick s).wc = s.wc ∧ (runPumpTick s).err = s.err ∧ (runPumpTick s).tele = s.tele ∧
    (runPumpTick s).sensors = s.sensors ∧ (runPumpTick s).rsp = s.rsp ∧
    (runPumpTick s).feed = s.feed ∧ (runPumpTick s).freeIdx = s.freeIdx := by
  simp [runPumpTick]

@[simp] theorem runTicks_keeps (s : State) :
    (runTicks s).cfg = s.cfg ∧ (runTicks s).now = s.now ∧ (runTicks s).valve = s.valve ∧
    (runTicks s).pid = s.pid ∧ (runTicks s).shot = s.shot ∧ (runTicks s).pre = s.pre ∧
    (runTicks s).wc = s.wc ∧ (runTicks s).err = s.err ∧ (runTicks s).tele = s.tele ∧
    (runTicks s).sensors = s.sensors ∧ (runTicks s).rsp = s.rsp ∧ (runTicks s).feed = s.feed ∧
    (runTicks s).freeIdx = s.freeIdx := by
  simp [runTicks]

@[simp] theorem runPidPeriod_keeps (s : State) :
    (runPidPeriod s).cfg = s.cfg ∧ (runPidPeriod s).now = s.now ∧ (runPidPeriod s).pump = s.pump ∧
    (runPidPeriod s).valve = s.valve ∧ (runPidPeriod s).shot = s.shot ∧
    (runPidPeriod s).pre = s.pre ∧ (runPidPeriod s).wc = s.wc ∧
    (runPidPeriod s).sensors = s.sensors ∧ (runPidPeriod s).rsp = s.rsp ∧
    (runPidPeriod s).feed = s.feed ∧ (runPidPeriod s).freeIdx = s.freeIdx := by
  unfold runPidPeriod; split <;> simp

@[simp] theorem advanceClock_keeps (s : State) :
    (advanceClock s).cfg = s.cfg ∧ (advanceClock s).pump = s.pump ∧
    (advanceClock s).heater = s.heater ∧ (advanceClock s).valve = s.valve ∧
    (advanceClock s).pid = s.pid ∧ (advanceClock s).shot = s.shot ∧ (advanceClock s).pre = s.pre ∧
    (advanceClock s).wc = s.wc ∧ (advanceClock s).err = s.err ∧ (advanceClock s).tele = s.tele ∧
    (advanceClock s).sensors = s.sensors ∧ (advanceClock s).rsp = s.rsp ∧
    (advanceClock s).feed = s.feed ∧ (advanceClock s).freeIdx = s.freeIdx := by
  simp [advanceClock]

end Sys2Proof.Machine
end

