-- ==== Sys2Proof/Laws/Ops.lean ====
section
/-! SUPPORT. What each named operation changes: for each shared operation one lemma that says once all it
can do (an equation for its result, or for the fields it writes), to be cited in place of its
definition. `Laws/State.lean` says what each leaves alone. -/

namespace Sys2Proof.Machine

/-! ### Flags -/

@[simp] theorem raise_err (e : ErrFlag) (s : State) : (raise e s).err = setFlag e s.err := rfl

@[simp] theorem illegalWord_err (s : State) :
    (illegalWord s).err = setFlag .illegalCmd s.err := rfl

@[simp] theorem getFlag_setFlag (e e' : ErrFlag) (f : Errors) :
    getFlag e' (setFlag e f) = (decide (e' = e) || getFlag e' f) := by
  cases e <;> cases e' <;> simp [getFlag, setFlag]

/-- A component command either has its effect or is an illegal word (60_exceptions.md R272). -/
theorem componentOp_cases (s t : State) :
    (s.cfg.componentPort = true ∧ componentOp s t = t) ∨
      (s.cfg.componentPort = false ∧ componentOp s t = illegalWord s) := by
  cases h : s.cfg.componentPort <;> simp [componentOp, h]

@[simp] theorem componentOp_on {s : State} (h : s.cfg.componentPort = true) (t : State) :
    componentOp s t = t := by
  simp [componentOp, h]

@[simp] theorem componentOp_off {s : State} (h : s.cfg.componentPort = false) (t : State) :
    componentOp s t = illegalWord s := by
  simp [componentOp, h]

/-! ### Storing exact results -/

theorem fits_iff {w : Nat} {x : Int} : fits w x = true ↔ 0 ≤ x ∧ x < 2 ^ w := by simp [fits]

/-- A result that fits is stored as it is. -/
theorem narrow_toNat {w : Nat} {x : Int} (h0 : 0 ≤ x) (h1 : x < 2 ^ w) (s : State) :
    ((narrow w x s).toNat : Int) = x := by
  rw [narrow, if_pos (fits_iff.2 ⟨h0, h1⟩), BitVec.toNat_ofInt]
  have h2 : x % ((2 ^ w : Nat) : Int) = x := Int.emod_eq_of_lt h0 (by exact_mod_cast h1)
  rw [h2, Int.toNat_of_nonneg h0]

/-- A result that fits costs no free value. -/
theorem spend_of_fits {w : Nat} {x : Int} (h0 : 0 ≤ x) (h1 : x < 2 ^ w) (s : State) :
    spend w x s = s := if_pos (fits_iff.2 ⟨h0, h1⟩)

@[simp] theorem spend_freeIdx (w : Nat) (x : Int) (s : State) :
    (spend w x s).freeIdx = if fits w x then s.freeIdx else s.freeIdx + 1 := by
  unfold spend; split <;> rfl

/-- The counter of free values after a result that fits. -/
theorem freeIdx_of_fits {w : Nat} {x : Int} (h0 : 0 ≤ x) (h1 : x < 2 ^ w) (k : Nat) :
    (if fits w x then k else k + 1) = k := if_pos (fits_iff.2 ⟨h0, h1⟩)

/-! ### PhaseOutput, the setters, the ports -/

@[simp] theorem getPo_setPo (x : PoUnit) (p : PhaseOutput) (s : State) : getPo x (setPo x p s) = p := by
  cases x <;> rfl

theorem getPo_setPo_of_ne {x y : PoUnit} (h : y ≠ x) (p : PhaseOutput) (s : State) :
    getPo y (setPo x p s) = getPo y s := by
  cases x <;> cases y <;> first | rfl | exact absurd rfl h

@[simp] theorem valveSet_valve (v : Bool) (s : State) :
    (valveSet v s).valve = ⟨s.valve.en, v && (s.valve.en || s.valve.out)⟩ := by
  rw [valveSet_eq]

@[simp] theorem pumpSetLevel_pump (p : Percent) (s : State) :
    (pumpSetLevel p s).pump = { s.pump with level := bucket p } := rfl

theorem heaterSetDuty_of_le {d : Nat} (h : d ≤ 100) (s : State) :
    heaterSetDuty d s = { s with heater := { s.heater with duty := ⟨d, by omega⟩ } } := dif_pos h

theorem heaterSetDuty_of_gt {d : Nat} (h : 100 < d) (s : State) :
    heaterSetDuty d s =
      { s with heater := { s.heater with duty := 0 }, err := { s.err with heaterRange := true } } :=
  dif_neg (by omega)

@[simp] theorem heaterSetDuty_zero (s : State) :
    heaterSetDuty 0 s = { s with heater := { s.heater with duty := 0 } } :=
  heaterSetDuty_of_le (by omega) s

/-- No duty leaves the output bits or the position. -/
theorem heaterSetDuty_heater (d : Nat) (s : State) :
    (heaterSetDuty d s).heater = { s.heater with duty := (heaterSetDuty d s).heater.duty } := by
  unfold heaterSetDuty; split <;> rfl

@[simp] theorem publish_tele (p i d u : Rat) (hd : Fin 101) (pd : PumpLevel) (s : State) :
    (publish p i d u hd pd s).tele = ⟨p, i, d, u, hd, pd, s.tele.seq + 1⟩ := rfl

@[simp] theorem respond_rsp (r : Response) (s : State) : (respond r s).rsp = some r := rfl

@[simp] theorem accept_ports (x : Sensors) (rest : List PortEvent) (s : State) :
    (accept x rest s).sensors = x ∧ (accept x rest s).feed = rest ∧
      (accept x rest s).rsp = none := ⟨rfl, rfl, rfl⟩

@[simp] theorem idle_rsp (s : State) : (idle s).rsp = none := rfl

@[simp] theorem fetch_pushCommand (w : CommandWord) (s : State) :
    fetch (pushCommand w s) = some (.command w s.sensors, s.feed) := rfl

theorem fetch_of_feed {s : State} {e : PortEvent} {rest : List PortEvent} (h : s.feed = e :: rest) :
    fetch s = some (e, rest) := by
  simp [fetch, h]

theorem bucket_100 : bucket 100#8 = .l100 := by decide
theorem bucket_0 : bucket 0#8 = .l0 := by decide

/-! ### The PWM ticks -/

theorem pumpTick_of_disabled {s : State} (h : s.pump.po.en = false) :
    pumpTick s = { s with pump := { s.pump with po := ⟨false, false⟩ } } := by
  simp [pumpTick, h, poOff, setPo, getPo]

/-- An enabled pump tick (41_pump_pwm.md R123). -/
theorem pumpTick_of_enabled {s : State} (h : s.pump.po.en = true) :
    pumpTick s = { s with pump :=
      { po := ⟨true, decide (pumpPosition s ∈ pumpOnPositions s.pump.level)⟩
        level := s.pump.level
        pos := Fin.ofNat 10 ((pumpPosition s + 1) % pumpPeriod s.pump.level)
        lastOn := if pumpPosition s ∈ pumpOnPositions s.pump.level then s.now
          else s.pump.lastOn } } := by
  simp only [pumpTick, h, if_true]
  by_cases hp : pumpPosition s ∈ pumpOnPositions s.pump.level
  · rw [pumpSlot, if_pos hp, if_pos hp, decide_eq_true hp, poOn_eq]
    simp only [setPo, getPo, h, pumpAdvance, pumpStamp, pumpPosition, Bool.true_or]
  · rw [pumpSlot, if_neg hp, if_neg hp, decide_eq_false hp]
    simp only [poOff, setPo, getPo, h, pumpAdvance, pumpPosition]

@[simp] theorem heaterTick_heater (s : State) :
    (heaterTick s).heater =
      ⟨⟨s.heater.po.en, s.heater.po.en && decide (s.heater.pos.val < s.heater.duty.val)⟩,
        s.heater.duty, Fin.ofNat 100 (s.heater.pos.val + 1)⟩ := rfl

/-- The pump's ticks write the pump alone. -/
theorem pumpTick_eq (s : State) : pumpTick s = { s with pump := (pumpTick s).pump } := by
  cases h : s.pump.po.en
  · simp [pumpTick_of_disabled h]
  · simp [pumpTick_of_enabled h]

theorem runPumpTick_eq (s : State) :
    runPumpTick s = if s.now.toNat % s.cfg.pumpTickMs = 0 then pumpTick s else s := by
  unfold runPumpTick
  split
  · rw [← pumpTick_eq]
  · rfl

@[simp] theorem pumpTick_level (s : State) : (pumpTick s).pump.level = s.pump.level := by
  cases h : s.pump.po.en
  · rw [pumpTick_of_disabled h]
  · rw [pumpTick_of_enabled h]

/-- The ticks of a millisecond keep the stored level. -/
@[simp] theorem runTicks_level (s : State) : (runTicks s).pump.level = s.pump.level := by
  unfold runTicks
  rw [runPumpTick_eq]
  split <;> simp

/-! ### The controller -/

/-- The process value as a maximum of readings (43_pid.md R150). -/
theorem selectPv_eq (s : State) :
    selectPv s = match s.pid.mode with
      | .water => max (max (tempRead .tA s) (tempRead .tB s)) (tempRead .tAvg s)
      | .steam => max (tempRead .tA s) (tempRead .tB s) := by
  unfold selectPv
  cases s.pid.mode
  · by_cases h : max (tempRead .tA s) (tempRead .tB s) > tempRead .tAvg s
    · exact (if_pos h).trans (max_eq_left (le_of_lt h)).symm
    · exact (if_neg h).trans (max_eq_right (not_lt.1 h)).symm
  · rfl

theorem pidClamp_range (x : Rat) : 0 ≤ pidClamp x ∧ pidClamp x ≤ 100 := by
  simp only [pidClamp, Config.outMin, Config.outMax]
  exact ⟨le_min (le_max_right _ _) (by norm_num), min_le_right _ _⟩

theorem pidThreshold_range {c : Cfg} (hc : c.Legal) {x : Rat} (h0 : 0 ≤ x) (h1 : x ≤ 100) :
    0 ≤ pidThreshold c x ∧ pidThreshold c x ≤ 100 := by
  unfold pidThreshold
  split
  · exact ⟨hc.minOutputNonneg, hc.minOutputLe⟩
  · exact ⟨h0, h1⟩

/-- The duty of a cycle is the floor of the thresholded output, and at most 100 (43_pid.md R162). -/
theorem pidDuty_spec {s : State} (hc : s.cfg.Legal) (pv : Rat) :
    ((pidDuty pv s : Nat) : Int) = (pidThreshold s.cfg (pidClamped pv s)).floor ∧
      pidDuty pv s ≤ 100 := by
  obtain ⟨h0, h1⟩ := pidThreshold_range hc (pidClamp_range _).1 (pidClamp_range _).2
  have f0 : (0 : Int) ≤ (pidThreshold s.cfg (pidClamped pv s)).floor :=
    Rat.le_floor_iff.2 (by exact_mod_cast h0)
  have f1 : (pidThreshold s.cfg (pidClamped pv s)).floor ≤ 100 := by
    have : ((pidThreshold s.cfg (pidClamped pv s)).floor : Rat) ≤ 100 :=
      le_trans (Rat.floor_le _) h1
    exact_mod_cast this
  unfold pidDuty
  omega

/-- All that a cycle of an enabled controller does (43_pid.md R151 to R161). -/
theorem pidCycleAt_eq {s : State} (hc : s.cfg.Legal) (pv : Rat) :
    pidCycleAt pv s = { s with
      heater := { s.heater with duty := ⟨pidDuty pv s, by have := (pidDuty_spec hc pv).2; omega⟩ }
      pid := pidWriteBack pv s
      tele := ⟨pidShareP pv s, pidShareI pv s, pidShareD pv s, pidRaw pv s,
        ⟨pidDuty pv s, by have := (pidDuty_spec hc pv).2; omega⟩, s.pump.level, s.tele.seq + 1⟩ } := by
  simp only [pidCycleAt, heaterSetDuty_of_le (pidDuty_spec hc pv).2, pidPublish, publish]

theorem pidCycle_of_disabled {s : State} (h : s.pid.en = false) : pidCycle s = s := by
  simp [pidCycle, h]

theorem pidCycle_of_enabled {s : State} (h : s.pid.en = true) :
    pidCycle s = pidCycleAt (selectPv s) s := by
  simp [pidCycle, h]

/-- With legal parameters a cycle writes the controller, the duty and the telemetry, and no flag. -/
theorem pidCycle_frame {s : State} (hc : s.cfg.Legal) :
    ∃ d, pidCycle s = { s with heater := { s.heater with duty := d }, pid := (pidCycle s).pid,
                               tele := (pidCycle s).tele } := by
  cases h : s.pid.en
  · exact ⟨s.heater.duty, by rw [pidCycle_of_disabled h]⟩
  · exact ⟨_, by rw [pidCycle_of_enabled h, pidCycleAt_eq hc]⟩

theorem pidStart_eq (s : State) :
    pidStart s = { s with
      heater := { s.heater with duty := 0 }
      pid := { s.pid with en := true, pv1 := selectPv s, pv2 := selectPv s, u1 := 0 } } := by
  simp [pidStart, pidSetEn, pidResetHistory]

theorem pidStop_eq (s : State) :
    pidStop s = { s with heater := { s.heater with duty := 0 }, pid := { s.pid with en := false } } := by
  simp [pidStop, pidSetEn]

@[simp] theorem pidSetTarget_pid (t : Rat) (m : PidMode) (s : State) :
    (pidSetTarget t m s).pid = { s.pid with target := legalTarget s.cfg t, mode := m } := rfl

@[simp] theorem pidOverride_pid (v : Rat) (n : BitVec 32) (s : State) :
    (pidOverride v n s).pid = { s.pid with ovrValue := v, ovrCount := n } := rfl

/-- A legal target stands in its interval (43_pid.md R147). -/
theorem legalTarget_range {c : Cfg} (hc : c.Legal) (t : Rat) :
    c.pidMinTemp ≤ legalTarget c t ∧ legalTarget c t < c.pidMaxTemp := by
  unfold legalTarget
  split
  · exact ⟨le_refl _, hc.tempRange⟩
  · rename_i h
    exact ⟨not_lt.1 fun h' => h (.inl h'), lt_of_not_ge fun h' => h (.inr h')⟩

/-! ### The Shot sequencer -/

theorem shotArmAt_eq (x : Int) (s : State) :
    shotArmAt x s = { s with shot := { s.shot with timer := ⟨true, narrow 64 x s⟩ },
                             freeIdx := if fits 64 x then s.freeIdx else s.freeIdx + 1 } := by
  unfold shotArmAt spend; split <;> rfl

theorem shotSetCur_eq (x : Int) (s : State) :
    shotSetCur x s = { s with shot := { s.shot with curPct := narrow 8 x s },
                              freeIdx := if fits 8 x then s.freeIdx else s.freeIdx + 1 } := by
  unfold shotSetCur spend; split <;> rfl

@[simp] theorem shotDisarm_shot (s : State) :
    (shotDisarm s).shot = { s.shot with timer := ⟨false, s.shot.timer.deadline⟩ } := rfl

@[simp] theorem shotEnter_shot (g : ShotStage) (s : State) :
    (shotEnter g s).shot = { s.shot with stage := g } := rfl

/-- All that `ShotEnterFull` does (44_shot.md R182). -/
theorem shotEnterFull_eq (s : State) :
    shotEnterFull s = { s with
      pump := { s.pump with level := .l100 }
      pid := { s.pid with ovrValue := 100, ovrCount := 3#32 }
      shot := { s.shot with stage := .full, startTime := s.now, stopTime := 0 } } := by
  simp [shotEnterFull, shotEnter, shotOverride, pidOverride, pumpSetLevel, shotStampStart, bucket_100]

/-- All that an accepted start does (44_shot.md R176). -/
theorem shotAccept_eq (f r z : Millis) (a b : Percent) (s : State) :
    shotAccept f r z a b s = { s with
      valve := ⟨s.valve.en, s.valve.en || s.valve.out⟩
      pump := { s.pump with level := .l100 }
      shot := { s.shot with
        active := true, stage := .initFill, startTime := 0, initFillMs := f, rampMs := r
        pauseMs := z, startPct := a, stopPct := b
        timer := ⟨true, narrow 64 ((s.now.toNat : Int) + f.toNat) s⟩ }
      freeIdx := if fits 64 ((s.now.toNat : Int) + f.toNat) then s.freeIdx
        else s.freeIdx + 1 } := by
  simp only [shotAccept, shotArm, shotArmAt_eq, shotActivate, shotLoad, valveSet_eq, pumpSetLevel,
    bucket_100, Bool.true_and]
  rfl

/-- All that a start can do (44_shot.md R176). -/
theorem shotStart_cases (f r z : Millis) (a b : Percent) (s : State) :
    (s.shot.active = true ∧ shotStart f r z a b s = s) ∨
    (s.shot.active = false ∧ shotArgsLegal f r z a b = true ∧
      shotStart f r z a b s = shotAccept f r z a b s) ∨
    (s.shot.active = false ∧ shotArgsLegal f r z a b = false ∧
      shotStart f r z a b s = raise .cfgReject s) := by
  cases h : s.shot.active <;> cases h' : shotArgsLegal f r z a b <;> simp [shotStart, h, h']

theorem shotArgsLegal_iff {f r z : Millis} {a b : Percent} :
    shotArgsLegal f r z a b = true ↔
      0 < f.toNat ∧ f.toNat ≤ 5000 ∧ r.toNat ≤ 10000 ∧ z.toNat ≤ 10000 ∧ a.toNat ≤ b.toNat ∧
        b.toNat ≤ 100 := by
  rw [shotArgsLegal, decide_eq_true_iff]
  simp only [Config.shotInitFillMaxMs, Config.shotRampMaxMs, Config.shotPauseMaxMs]
  omega

/-- All that `ShotStop` does (44_shot.md R183). -/
theorem shotStop_eq (p : Percent) (v : Bool) (s : State) :
    shotStop p v s = if s.shot.active then { s with
        pump := { s.pump with level := bucket p }
        valve := ⟨s.valve.en, v && (s.valve.en || s.valve.out)⟩
        shot := { s.shot with
          active := false, stage := .idle, stopTime := s.now
          timer := ⟨false, s.shot.timer.deadline⟩ } } else s := by
  unfold shotStop
  split <;> simp [valveSet_eq, pumpSetLevel, shotDeactivate, shotDisarm]

/-- The ramp interval is never negative when the percents are in order (44_shot.md R177). -/
theorem rampInterval_nonneg {s : State} (h : s.shot.startPct.toNat ≤ s.shot.stopPct.toNat) :
    0 ≤ rampInterval s := by
  unfold rampInterval rampQuotient
  split
  · omega
  · exact Int.fdiv_nonneg (by omega) (by omega)

/-- All that a fire of the Shot timer can do, by stage (44_shot.md R178 to R182). -/
theorem shotTimerFire_cases (s : State) :
    (s.shot.active = false ∧ shotTimerFire s = shotDisarm s) ∨
    (s.shot.active = true ∧ s.shot.stage = .initFill ∧
      shotTimerFire s = shotFireInitFill (shotDisarm s)) ∨
    (s.shot.active = true ∧ s.shot.stage = .ramp ∧
      shotTimerFire s = shotFireRamp (shotDisarm s)) ∨
    (s.shot.active = true ∧ s.shot.stage = .pause ∧
      shotTimerFire s = shotEnterFull (shotDisarm s)) ∨
    (s.shot.active = true ∧ (s.shot.stage = .idle ∨ s.shot.stage = .full) ∧
      shotTimerFire s = shotDisarm s) := by
  cases h : s.shot.active <;> cases h' : s.shot.stage <;>
    simp [shotTimerFire, shotFireStage, h, h']

/-- All that the INIT_FILL arm does (44_shot.md R178). -/
theorem shotFireInitFill_eq (s : State) :
    ∃ c d k, shotFireInitFill s = { s with
        pump := { s.pump with level := bucket s.shot.startPct }
        shot := { s.shot with stage := .ramp, curPct := c, timer := ⟨true, d⟩ }
        freeIdx := k } ∧
      ((s.shot.startPct.toNat + s.cfg.rampFirstOffset < 256) →
        c.toNat = s.shot.startPct.toNat + s.cfg.rampFirstOffset ∧
        (0 ≤ (s.now.toNat : Int) + rampInterval s → (s.now.toNat : Int) + rampInterval s < 2 ^ 64 →
          (d.toNat : Int) = s.now.toNat + rampInterval s ∧ k = s.freeIdx)) := by
  refine ⟨_, _, _, by
    simp only [shotFireInitFill, shotArmRamp, shotArm, shotArmAt_eq, shotEnter, shotSetCur_eq,
      pumpSetLevel]; rfl, fun hc => ⟨?_, fun h0 h1 => ⟨?_, ?_⟩⟩⟩
  · have := narrow_toNat (w := 8) (x := (s.shot.startPct.toNat : Int) + s.cfg.rampFirstOffset)
      (by omega) (by omega) (pumpSetLevel s.shot.startPct s)
    simp only [pumpSetLevel] at this
    omega
  · exact narrow_toNat h0 h1 _
  · exact (freeIdx_of_fits h0 h1 _).trans (freeIdx_of_fits (by omega) (by omega) _)

/-- All that a ramp step does (44_shot.md R179). -/
theorem shotRampStep_eq (s : State) :
    ∃ c d k, shotRampStep s = { s with
        pump := { s.pump with level := bucket s.shot.curPct }
        pid := (shotStepOverride s).pid
        shot := { s.shot with curPct := c, timer := ⟨true, d⟩ }
        freeIdx := k } ∧
      ((s.shot.curPct.toNat + 10 < 256) →
        c.toNat = s.shot.curPct.toNat + 10 ∧
        (0 ≤ (s.now.toNat : Int) + rampInterval s → (s.now.toNat : Int) + rampInterval s < 2 ^ 64 →
          (d.toNat : Int) = s.now.toNat + rampInterval s ∧ k = s.freeIdx)) := by
  have e : shotStepOverride (pumpSetLevel s.shot.curPct s) =
      { s with pump := { s.pump with level := bucket s.shot.curPct },
               pid := (shotStepOverride s).pid } := by
    by_cases hc : s.shot.curPct.toNat > s.shot.startPct.toNat + s.cfg.rampFirstOffset
    · rw [show shotStepOverride s = shotOverride s from if_pos hc]
      exact if_pos hc
    · rw [show shotStepOverride s = s from if_neg hc]
      exact if_neg hc
  refine ⟨_, _, _, by
    simp only [shotRampStep, shotArmRamp, shotArm, shotArmAt_eq, shotStepCur, shotSetCur_eq, e]; rfl,
    fun hc => ⟨?_, fun h0 h1 => ⟨?_, ?_⟩⟩⟩
  · have e10 : Config.shotRampInc = 10 := rfl
    exact Int.ofNat_inj.1 ((narrow_toNat (w := 8) (by omega) (by omega) _).trans (by omega))
  · exact narrow_toNat h0 h1 _
  · exact (freeIdx_of_fits h0 h1 _).trans
      (freeIdx_of_fits (by simp only [Config.shotRampInc]; omega)
        (by simp only [Config.shotRampInc]; omega) _)

/-- What follows the ramp (44_shot.md R180 to R182). -/
theorem shotAfterRamp_cases (s : State) :
    (0 < s.shot.pauseMs.toNat ∧ shotAfterRamp s = { s with
        pump := { s.pump with level := .l0 }
        shot := { s.shot with
          stage := .pause
          timer := ⟨true, narrow 64 ((s.now.toNat : Int) + s.shot.pauseMs.toNat) s⟩ }
        freeIdx := if fits 64 ((s.now.toNat : Int) + s.shot.pauseMs.toNat) then s.freeIdx
        else s.freeIdx + 1 }) ∨
    (s.shot.pauseMs.toNat = 0 ∧ shotAfterRamp s = shotEnterFull s) := by
  unfold shotAfterRamp
  split
  · rename_i h
    refine .inl ⟨h, ?_⟩
    simp only [shotArm, shotArmAt_eq, shotEnter, pumpSetLevel, bucket_0]
    rfl
  · exact .inr ⟨by omega, rfl⟩

/-! ### The Preheat sequencer -/

theorem preArmAt_eq (x : Int) (s : State) :
    preArmAt x s = { s with pre := { s.pre with timer := ⟨true, narrow 64 x s⟩ },
                            freeIdx := if fits 64 x then s.freeIdx else s.freeIdx + 1 } := by
  unfold preArmAt spend; split <;> rfl

@[simp] theorem preDisarm_pre (s : State) :
    (preDisarm s).pre = { s.pre with timer := ⟨false, s.pre.timer.deadline⟩ } := rfl

/-- All that `PreheatEnterPumpOn` does (45_preheat.md R201). -/
theorem preheatEnterPumpOn_eq (s : State) :
    preheatEnterPumpOn s = { s with
      valve := ⟨s.valve.en, s.valve.en || s.valve.out⟩
      pump := { s.pump with level := .l100 }
      pre := { s.pre with
        stage := .pumpOn
        timer := ⟨true, narrow 64 ((s.now.toNat : Int) + s.pre.pumpMs.toNat) s⟩ }
      freeIdx := if fits 64 ((s.now.toNat : Int) + s.pre.pumpMs.toNat) then s.freeIdx
        else s.freeIdx + 1 } := by
  simp only [preheatEnterPumpOn, preArm, preArmAt_eq, preEnter, pumpSetLevel, valveSet_eq, bucket_100,
    Bool.true_and]
  rfl

theorem preRest_eq (s : State) :
    preRest s = { s with valve := ⟨s.valve.en, false⟩, pump := { s.pump with level := .l0 } } := by
  simp [preRest, valveSet_eq, pumpSetLevel, bucket_0]

theorem preFirePumpOn_eq (s : State) :
    preFirePumpOn s = { s with
      valve := ⟨s.valve.en, false⟩
      pump := { s.pump with level := .l0 }
      pre := { s.pre with
        stage := .hold
        timer := ⟨true, narrow 64 ((s.now.toNat : Int) + s.pre.stopPumpMs.toNat) s⟩ }
      freeIdx := if fits 64 ((s.now.toNat : Int) + s.pre.stopPumpMs.toNat) then s.freeIdx
        else s.freeIdx + 1 } := by
  simp only [preFirePumpOn, preArm, preArmAt_eq, preEnter, preRest_eq]
  rfl

theorem preFireHold_eq (s : State) :
    preFireHold s = { s with
      valve := ⟨s.valve.en, false⟩
      pump := { s.pump with level := .l0 }
      pre := { s.pre with
        stage := .pause
        timer := ⟨true, narrow 64 ((s.now.toNat : Int) + s.pre.pauseMs.toNat) s⟩ }
      freeIdx := if fits 64 ((s.now.toNat : Int) + s.pre.pauseMs.toNat) then s.freeIdx
        else s.freeIdx + 1 } := by
  simp only [preFireHold, preArm, preArmAt_eq, preEnter, preRest_eq]
  rfl

/-- A fire of the Preheat timer leaves the stored durations alone. -/
theorem preheatTimerFire_durations (s : State) :
    (preheatTimerFire s).pre.pumpMs = s.pre.pumpMs ∧
    (preheatTimerFire s).pre.stopPumpMs = s.pre.stopPumpMs ∧
    (preheatTimerFire s).pre.pauseMs = s.pre.pauseMs := by
  simp only [preheatTimerFire, preFireStage]
  split <;> simp [preFirePumpOn_eq, preFireHold_eq, preheatEnterPumpOn_eq]

/-- All that a fire of the Preheat timer can do, by stage (45_preheat.md R202 to R205). -/
theorem preheatTimerFire_cases (s : State) :
    (s.pre.stage = .pumpOn ∧ preheatTimerFire s = preFirePumpOn (preDisarm s)) ∨
    (s.pre.stage = .hold ∧ preheatTimerFire s = preFireHold (preDisarm s)) ∨
    (s.pre.stage = .pause ∧ preheatTimerFire s = preheatEnterPumpOn (preDisarm s)) ∨
    (s.pre.stage = .off ∧ preheatTimerFire s = preDisarm s) := by
  cases h : s.pre.stage <;> simp [preheatTimerFire, preFireStage, h]

/-- All that a start can do (45_preheat.md R200). -/
theorem preheatStart_cases (a b c : Millis) (s : State) :
    (s.pre.stage ≠ .off ∧ preheatStart a b c s = s) ∨
    (s.pre.stage = .off ∧ preArgsLegal a b c = true ∧
      preheatStart a b c s = preheatEnterPumpOn (preLoad a b c s)) ∨
    (s.pre.stage = .off ∧ preArgsLegal a b c = false ∧
      preheatStart a b c s = raise .cfgReject s) := by
  by_cases h : s.pre.stage = .off <;> cases h' : preArgsLegal a b c <;> simp [preheatStart, h, h']

theorem preArgsLegal_iff {a b c : Millis} :
    preArgsLegal a b c = true ↔
      100 ≤ a.toNat ∧ a.toNat ≤ 5000 ∧ b.toNat ≤ 2000 ∧ 4000 ≤ c.toNat ∧ c.toNat ≤ 50000 := by
  rw [preArgsLegal, decide_eq_true_iff]
  simp only [Config.prePumpMinMs, Config.prePumpMaxMs, Config.preStopPumpMaxMs,
    Config.prePauseMinMs, Config.prePauseMaxMs]
  omega

/-- All that `PreheatStop` does (45_preheat.md R206). -/
theorem preheatStop_eq (p : Percent) (v : Bool) (s : State) :
    preheatStop p v s = { s with
      pump := { s.pump with level := bucket p }
      valve := ⟨s.valve.en, v && (s.valve.en || s.valve.out)⟩
      pre := { s.pre with stage := .off, timer := ⟨false, s.pre.timer.deadline⟩ } } := by
  simp [preheatStop, valveSet_eq, pumpSetLevel, preEnter, preDisarm]

/-! ### WaterControl -/

/-- All that `WcStop` does (46_watercontrol.md R216). -/
theorem wcStop_eq (p : Percent) (v : Bool) (m : WcMode) (s : State) :
    wcStop p v m s = { s with
      pump := { s.pump with level := bucket (effectivePercent p s) }
      valve := ⟨s.valve.en, v && (s.valve.en || s.valve.out)⟩
      shot := if s.shot.active then { s.shot with
          active := false, stage := .idle, stopTime := s.now
          timer := ⟨false, s.shot.timer.deadline⟩ } else s.shot
      pre := { s.pre with stage := .off, timer := ⟨false, s.pre.timer.deadline⟩ }
      wc := if overrideWins s then { s.wc with mode := m } else ⟨m, false, 0, 0, 0⟩ } := by
  have e : expireOverride s =
      { s with wc := if overrideWins s then s.wc else ⟨s.wc.mode, false, 0, 0, 0⟩ } := by
    unfold expireOverride; split <;> rfl
  have b : (v && (s.valve.en || (v && (s.valve.en || s.valve.out)))) =
      (v && (s.valve.en || s.valve.out)) := by
    cases v <;> cases s.valve.en <;> cases s.valve.out <;> rfl
  cases ha : s.shot.active <;> cases hw : overrideWins s <;>
    simp [wcStop, stopSequencers, e, shotStop_eq, preheatStop_eq, valveSet_eq, pumpSetLevel,
      setWcMode, ha, hw, b]

/-- The age of an override whose stamp does not lie in the future. -/
theorem overrideAge_of_le {s : State} (h : s.wc.ovrActiveMs.toNat ≤ s.now.toNat) :
    overrideAge s = s.now.toNat - s.wc.ovrActiveMs.toNat := if_pos h

theorem overrideWins_iff (s : State) :
    overrideWins s = true ↔ s.wc.ovrActive = true ∧ overrideAge s < s.wc.ovrTotalMs.toNat := by
  simp [overrideWins]

/-- Where the stamp does not lie in the future the override wins exactly while it is younger than its
duration (46_watercontrol.md R216). -/
theorem overrideWins_iff_of_le {s : State} (h : s.wc.ovrActiveMs.toNat ≤ s.now.toNat) :
    overrideWins s = true ↔ s.wc.ovrActive = true ∧
      s.now.toNat < s.wc.ovrActiveMs.toNat + s.wc.ovrTotalMs.toNat := by
  rw [overrideWins_iff, overrideAge_of_le h]
  exact and_congr_right fun _ => by omega

/-- "An override of duration 0 never wins" (46_watercontrol.md R216). -/
theorem overrideWins_of_zero {s : State} (h : s.wc.ovrTotalMs.toNat = 0) : overrideWins s = false := by
  simp [overrideWins, h]

/-! ### The time base -/

theorem shotDue_iff (s : State) :
    shotDue s = true ↔ s.shot.timer.armed = true ∧ s.shot.timer.deadline.toNat ≤ s.now.toNat := by
  simp [shotDue]

theorem preDue_iff (s : State) :
    preDue s = true ↔ s.pre.timer.armed = true ∧ s.pre.timer.deadline.toNat ≤ s.now.toNat := by
  simp [preDue]

/-- The loop of 47_time_and_queries.md R242 keeps what each of its two fires keeps. -/
theorem runDueTimers_induct {P : State → Prop}
    (hs : ∀ s, P s → shotDue s = true → P (shotTimerFire s))
    (hp : ∀ s, P s → shotDue s = false → preDue s = true → P (preheatTimerFire s)) :
    ∀ (n : Nat) (s t : State), runDueTimers n s = some t → P s → P t := by
  intro n
  induction n with
  | zero =>
    intro s t h hP
    simp only [runDueTimers] at h
    split at h
    · cases h
    · cases h; exact hP
  | succ n ih =>
    intro s t h hP
    simp only [runDueTimers] at h
    split at h
    · rename_i hd; exact ih _ _ h (hs s hP hd)
    · rename_i hd
      split at h
      · rename_i hd'; exact ih _ _ h (hp s hP (by simpa using hd) hd')
      · cases h; exact hP

/-- When the loop ends, no timer is due. -/
theorem runDueTimers_settled :
    ∀ (n : Nat) (s t : State), runDueTimers n s = some t → shotDue t = false ∧ preDue t = false := by
  intro n
  induction n with
  | zero =>
    intro s t h
    simp only [runDueTimers] at h
    split at h
    · cases h
    · rename_i hd; cases h; simpa using hd
  | succ n ih =>
    intro s t h
    simp only [runDueTimers] at h
    split at h
    · exact ih _ _ h
    · split at h
      · exact ih _ _ h
      · rename_i hd hd'; cases h; exact ⟨by simpa using hd, by simpa using hd'⟩

/-- With no timer due the loop ends at once. -/
theorem runDueTimers_of_quiet {s : State} (h1 : shotDue s = false) (h2 : preDue s = false) (n : Nat) :
    runDueTimers n s = some s := by
  cases n <;> simp [runDueTimers, h1, h2]

/-- A due Shot timer is served first. -/
theorem runDueTimers_of_shotDue {s : State} (h : shotDue s = true) (n : Nat) :
    runDueTimers (n + 1) s = runDueTimers n (shotTimerFire s) := by
  simp [runDueTimers, h]

/-- A due Preheat timer is served where the Shot timer is not due. -/
theorem runDueTimers_of_preDue {s : State} (h1 : shotDue s = false) (h2 : preDue s = true) (n : Nat) :
    runDueTimers (n + 1) s = runDueTimers n (preheatTimerFire s) := by
  simp [runDueTimers, h1, h2]

/-- A `TICK_MS` whose timers settle in `u` answers `u` after the PID period. -/
theorem execTickMs_of_settled {s u : State} (h : s.now.toNat + 1 < 2 ^ 64)
    (hu : runDueTimers timerFires (runTicks (advanceClock s)) = some u) :
    execTickMs s = .next (runPidPeriod u) := by
  simp only [execTickMs, if_neg (show ¬ s.now.toNat + 1 = 2 ^ 64 by omega), hu]

/-- A `TICK_MS` that answers a next state (47_time_and_queries.md R241). -/
theorem execTickMs_next {s t : State} (h : execTickMs s = .next t) :
    s.now.toNat + 1 ≠ 2 ^ 64 ∧
      ∃ u, runDueTimers timerFires (runTicks (advanceClock s)) = some u ∧ t = runPidPeriod u := by
  unfold execTickMs at h
  split at h
  · cases h
  · rename_i h0
    refine ⟨h0, ?_⟩
    split at h
    · rename_i u hu; cases h; exact ⟨u, hu, rfl⟩
    · cases h

theorem advanceClock_now {s : State} (h : s.now.toNat + 1 < 2 ^ 64) :
    (advanceClock s).now.toNat = s.now.toNat + 1 := by
  simp only [advanceClock, BitVec.toNat_add]
  simp
  omega

/-! ### The step -/

/-- All that a step can be (30_encoding.md R80). -/
theorem step_cases (s : State) :
    (s.feed = [] ∧ step s = .next (idle s)) ∨
    (∃ rest, s.feed = .reset :: rest ∧ step s = .next (resetInput rest s)) ∨
    (∃ w x rest i, s.feed = .command w x :: rest ∧ decode w = .ok i ∧
      step s = exec i (accept x rest s)) ∨
    (∃ w x rest e, s.feed = .command w x :: rest ∧ decode w = .error e ∧
      step s = .next (illegalWord (accept x rest s))) := by
  cases hf : s.feed with
  | nil => exact .inl ⟨rfl, by simp [step, fetch, hf]⟩
  | cons e rest =>
    cases e with
    | reset => exact .inr (.inl ⟨rest, rfl, by simp [step, fetch, hf]⟩)
    | command w x =>
      cases hd : decode w with
      | ok i => exact .inr (.inr (.inl ⟨w, x, rest, i, rfl, hd, by simp [step, fetch, hf, hd]⟩))
      | error e => exact .inr (.inr (.inr ⟨w, x, rest, e, rfl, hd, by simp [step, fetch, hf, hd]⟩))

end Sys2Proof.Machine
end

