-- ==== Sys2Proof/Laws/PerInstr.lean ====
section
/-! SUPPORT. Families of lemmas with one lemma per command. `OpcodeByte`: the low byte of a command's
word is its opcode (spec/30_encoding.md R81, R84, R85), so no word is the word of two kinds of command. -/

/-- The low byte of the word of a command is the command's opcode (R81). -/
def Sys2Proof.Laws.OpcodeByte.Statement (i : Sys2Proof.Instr) : Prop :=
  (Sys2Proof.encode i).extractLsb' 0 8 = Sys2Proof.opcodeOf i

/-- The `op` field of a word built from fields. -/
theorem Sys2Proof.Laws.op_of_wordOf (f : Sys2Proof.Fields) :
    (Sys2Proof.wordOf f).extractLsb' 0 8 = f.op :=
  congrArg Sys2Proof.Fields.op (Sys2Proof.fieldsOf_wordOf f)

theorem Sys2Proof.Laws.OpcodeByte.nop :
    Sys2Proof.Laws.OpcodeByte.Statement .nop :=
  Sys2Proof.Laws.op_of_wordOf _

theorem Sys2Proof.Laws.OpcodeByte.wcEnable :
    Sys2Proof.Laws.OpcodeByte.Statement .wcEnable :=
  Sys2Proof.Laws.op_of_wordOf _

theorem Sys2Proof.Laws.OpcodeByte.wcDisable :
    Sys2Proof.Laws.OpcodeByte.Statement .wcDisable :=
  Sys2Proof.Laws.op_of_wordOf _

theorem Sys2Proof.Laws.OpcodeByte.wcStartPump (percent : Sys2Proof.Percent) (valve : Bool) :
    Sys2Proof.Laws.OpcodeByte.Statement (.wcStartPump percent valve) :=
  Sys2Proof.Laws.op_of_wordOf _

theorem Sys2Proof.Laws.OpcodeByte.wcStartShot :
    Sys2Proof.Laws.OpcodeByte.Statement .wcStartShot :=
  Sys2Proof.Laws.op_of_wordOf _

theorem Sys2Proof.Laws.OpcodeByte.wcStartPreheat :
    Sys2Proof.Laws.OpcodeByte.Statement .wcStartPreheat :=
  Sys2Proof.Laws.op_of_wordOf _

theorem Sys2Proof.Laws.OpcodeByte.wcStartSteam (percent : Sys2Proof.Percent) (valve : Bool) :
    Sys2Proof.Laws.OpcodeByte.Statement (.wcStartSteam percent valve) :=
  Sys2Proof.Laws.op_of_wordOf _

theorem Sys2Proof.Laws.OpcodeByte.wcOverridePump (percent : Sys2Proof.Percent)
    (durationMs : Sys2Proof.Millis) :
    Sys2Proof.Laws.OpcodeByte.Statement (.wcOverridePump percent durationMs) :=
  Sys2Proof.Laws.op_of_wordOf _

theorem Sys2Proof.Laws.OpcodeByte.wcStop (percent : Sys2Proof.Percent)
    (valve : Bool) (mode : BitVec 3) :
    Sys2Proof.Laws.OpcodeByte.Statement (.wcStop percent valve mode) :=
  Sys2Proof.Laws.op_of_wordOf _

theorem Sys2Proof.Laws.OpcodeByte.qShotTime :
    Sys2Proof.Laws.OpcodeByte.Statement .qShotTime :=
  Sys2Proof.Laws.op_of_wordOf _

theorem Sys2Proof.Laws.OpcodeByte.qPidP :
    Sys2Proof.Laws.OpcodeByte.Statement .qPidP :=
  Sys2Proof.Laws.op_of_wordOf _

theorem Sys2Proof.Laws.OpcodeByte.qPidI :
    Sys2Proof.Laws.OpcodeByte.Statement .qPidI :=
  Sys2Proof.Laws.op_of_wordOf _

theorem Sys2Proof.Laws.OpcodeByte.qPidD :
    Sys2Proof.Laws.OpcodeByte.Statement .qPidD :=
  Sys2Proof.Laws.op_of_wordOf _

theorem Sys2Proof.Laws.OpcodeByte.qPidU :
    Sys2Proof.Laws.OpcodeByte.Statement .qPidU :=
  Sys2Proof.Laws.op_of_wordOf _

theorem Sys2Proof.Laws.OpcodeByte.qPumpDuty :
    Sys2Proof.Laws.OpcodeByte.Statement .qPumpDuty :=
  Sys2Proof.Laws.op_of_wordOf _

theorem Sys2Proof.Laws.OpcodeByte.qStatus :
    Sys2Proof.Laws.OpcodeByte.Statement .qStatus :=
  Sys2Proof.Laws.op_of_wordOf _

theorem Sys2Proof.Laws.OpcodeByte.tickMs :
    Sys2Proof.Laws.OpcodeByte.Statement .tickMs :=
  Sys2Proof.Laws.op_of_wordOf _

theorem Sys2Proof.Laws.OpcodeByte.poEnable (unit : BitVec 8) :
    Sys2Proof.Laws.OpcodeByte.Statement (.poEnable unit) :=
  Sys2Proof.Laws.op_of_wordOf _

theorem Sys2Proof.Laws.OpcodeByte.poDisable (unit : BitVec 8) :
    Sys2Proof.Laws.OpcodeByte.Statement (.poDisable unit) :=
  Sys2Proof.Laws.op_of_wordOf _

theorem Sys2Proof.Laws.OpcodeByte.poOn (unit : BitVec 8) :
    Sys2Proof.Laws.OpcodeByte.Statement (.poOn unit) :=
  Sys2Proof.Laws.op_of_wordOf _

theorem Sys2Proof.Laws.OpcodeByte.poOff (unit : BitVec 8) :
    Sys2Proof.Laws.OpcodeByte.Statement (.poOff unit) :=
  Sys2Proof.Laws.op_of_wordOf _

theorem Sys2Proof.Laws.OpcodeByte.pumpSetLevel (percent : Sys2Proof.Percent) :
    Sys2Proof.Laws.OpcodeByte.Statement (.pumpSetLevel percent) :=
  Sys2Proof.Laws.op_of_wordOf _

theorem Sys2Proof.Laws.OpcodeByte.pumpTick :
    Sys2Proof.Laws.OpcodeByte.Statement .pumpTick :=
  Sys2Proof.Laws.op_of_wordOf _

theorem Sys2Proof.Laws.OpcodeByte.heaterSetDuty (percent : Sys2Proof.Percent) :
    Sys2Proof.Laws.OpcodeByte.Statement (.heaterSetDuty percent) :=
  Sys2Proof.Laws.op_of_wordOf _

theorem Sys2Proof.Laws.OpcodeByte.heaterTick :
    Sys2Proof.Laws.OpcodeByte.Statement .heaterTick :=
  Sys2Proof.Laws.op_of_wordOf _

theorem Sys2Proof.Laws.OpcodeByte.pidStart :
    Sys2Proof.Laws.OpcodeByte.Statement .pidStart :=
  Sys2Proof.Laws.op_of_wordOf _

theorem Sys2Proof.Laws.OpcodeByte.pidStop :
    Sys2Proof.Laws.OpcodeByte.Statement .pidStop :=
  Sys2Proof.Laws.op_of_wordOf _

theorem Sys2Proof.Laws.OpcodeByte.pidSetTarget (temp : Sys2Proof.Q16) (steam : Bool) :
    Sys2Proof.Laws.OpcodeByte.Statement (.pidSetTarget temp steam) :=
  Sys2Proof.Laws.op_of_wordOf _

theorem Sys2Proof.Laws.OpcodeByte.pidOverride (value : Sys2Proof.Q16) (cycles : BitVec 32) :
    Sys2Proof.Laws.OpcodeByte.Statement (.pidOverride value cycles) :=
  Sys2Proof.Laws.op_of_wordOf _

theorem Sys2Proof.Laws.OpcodeByte.pidCycle :
    Sys2Proof.Laws.OpcodeByte.Statement .pidCycle :=
  Sys2Proof.Laws.op_of_wordOf _

theorem Sys2Proof.Laws.OpcodeByte.shotStart (initFillMs rampMs pauseMs : Sys2Proof.Millis)
    (startPct stopPct : Sys2Proof.Percent) :
    Sys2Proof.Laws.OpcodeByte.Statement (.shotStart initFillMs rampMs pauseMs startPct stopPct) :=
  Sys2Proof.Laws.op_of_wordOf _

theorem Sys2Proof.Laws.OpcodeByte.shotStop (percent : Sys2Proof.Percent) (valve : Bool) :
    Sys2Proof.Laws.OpcodeByte.Statement (.shotStop percent valve) :=
  Sys2Proof.Laws.op_of_wordOf _

theorem Sys2Proof.Laws.OpcodeByte.preheatStart (pumpMs stopPumpMs pauseMs : Sys2Proof.Millis) :
    Sys2Proof.Laws.OpcodeByte.Statement (.preheatStart pumpMs stopPumpMs pauseMs) :=
  Sys2Proof.Laws.op_of_wordOf _

theorem Sys2Proof.Laws.OpcodeByte.preheatStop (percent : Sys2Proof.Percent) (valve : Bool) :
    Sys2Proof.Laws.OpcodeByte.Statement (.preheatStop percent valve) :=
  Sys2Proof.Laws.op_of_wordOf _
end

