-- ==== Sys2Proof/Laws/Safety.lean ====
section
/-! SUPPORT. What the good states of Safety.lean give at once, and that the parameters of `State.reset`
are legal whatever the open parameters are. -/

namespace Sys2Proof

/-- The parameters of `State.reset` meet the constraints of 00_scope.md R6 and R7. -/
theorem Config.cfg_legal : Config.cfg.Legal where
  tempRange := by
    unfold Config.cfg
    dsimp only
    split
    · assumption
    · exact lt_add_of_pos_right _ (by norm_num)
  minOutputNonneg := le_min (le_max_right _ _) (by norm_num)
  minOutputLe := min_le_right _ _
  samplePeriodPos := le_max_right _ _
  pumpTickPos := le_max_right _ _
  rampOffset := .inr rfl

namespace Machine

/-- At most one sequencer runs (46_watercontrol.md R230 a follows from R230 b). -/
theorem OneSequencer.exclusive {s : State} (h : OneSequencer s) :
    ¬(s.shot.active = true ∧ s.pre.stage ≠ .off) := by
  rintro ⟨ha, hp⟩
  have hm := h.shotMode ha
  rw [h.preheatMode hp] at hm
  cases hm

/-- A due Shot timer belongs to an active shot outside FULL. -/
theorem RegInv.shot_of_due {s : State} (h : RegInv s) (hd : shotDue s = true) :
    s.shot.active = true ∧
      (s.shot.stage = .initFill ∨ s.shot.stage = .ramp ∨ s.shot.stage = .pause) := by
  have hs := h.shotTimer.1 ((shotDue_iff s).1 hd).1
  exact ⟨h.shotStage.2 (by rcases hs with e | e | e <;> simp [e]), hs⟩

/-- A due Preheat timer belongs to a running preheat. -/
theorem RegInv.preheat_of_due {s : State} (h : RegInv s) (hd : preDue s = true) :
    s.pre.stage ≠ .off := h.preTimer.1 ((preDue_iff s).1 hd).1

/-- A valve request keeps a disabled valve closed. -/
theorem RegInv.valveSet_gate {s : State} (h : RegInv s) (v : Bool) :
    (valveSet v s).valve.en = false → (valveSet v s).valve.out = false := by
  intro he
  have he' : s.valve.en = false := by simpa using he
  simp [he', h.valveGate he']

end Machine
end Sys2Proof
end

