-- ==== Sys2Proof/Machine/Assembler.lean ====
section
/-! DEFINITION. The textual form of a command and the pseudo-commands (spec/30_encoding.md R93, R94).
Nothing in the machine depends on this file. -/

namespace Sys2Proof.Machine

/-- A valve operand (R93). -/
def valveText (v : Bool) : String := if v then "open" else "closed"

/-- A unit operand; a number the encoding does not admit is written as it is (R93). -/
def unitText (u : BitVec 8) : String :=
  match unitOf? u with
  | some .pump => "pump"
  | some .heater => "heater"
  | some .valve => "valve"
  | none => toString u.toNat

/-- A WaterControl mode operand; a number the encoding does not admit is written as it is (R93). -/
def wcModeText (m : BitVec 3) : String :=
  match wcModeOf? m with
  | some .off => "OFF"
  | some .water => "WATER"
  | some .waterValve => "WATER_VALVE"
  | some .shot => "SHOT"
  | some .preheat => "PREHEAT"
  | some .steam => "STEAM"
  | none => toString m.toNat

/-- A PID mode operand (R93). -/
def pidModeText (steam : Bool) : String := if steam then "STEAM" else "WATER"

/-- The decimal digits of `r / 65536` for `r < 65536`: sixteen digits are always enough, and at least
one is written. -/
def fractionText : Nat → Nat → String
  | 0, _ => ""
  | k + 1, r =>
    toString (r * 10 / 65536) ++ (if r * 10 % 65536 = 0 then "" else fractionText k (r * 10 % 65536))

/-- A temperature or value operand: the decimal of a multiple of 1/65536 (R93). -/
def q16Text (w : Q16) : String :=
  (if w.toInt < 0 then "-" else "") ++ toString (w.toInt.natAbs / 65536) ++ "."
    ++ fractionText 16 (w.toInt.natAbs % 65536)

/-- The operands of a command, in the document's order (R93). -/
def operandTexts : Instr → List String
  | .nop => []
  | .wcEnable => []
  | .wcDisable => []
  | .wcStartPump percent valve => [toString percent.toNat, valveText valve]
  | .wcStartShot => []
  | .wcStartPreheat => []
  | .wcStartSteam percent valve => [toString percent.toNat, valveText valve]
  | .wcOverridePump percent durationMs => [toString percent.toNat, toString durationMs.toNat]
  | .wcStop percent valve mode => [toString percent.toNat, valveText valve, wcModeText mode]
  | .qShotTime => []
  | .qPidP => []
  | .qPidI => []
  | .qPidD => []
  | .qPidU => []
  | .qPumpDuty => []
  | .qStatus => []
  | .tickMs => []
  | .poEnable unit => [unitText unit]
  | .poDisable unit => [unitText unit]
  | .poOn unit => [unitText unit]
  | .poOff unit => [unitText unit]
  | .pumpSetLevel percent => [toString percent.toNat]
  | .pumpTick => []
  | .heaterSetDuty percent => [toString percent.toNat]
  | .heaterTick => []
  | .pidStart => []
  | .pidStop => []
  | .pidSetTarget temp steam => [q16Text temp, pidModeText steam]
  | .pidOverride value cycles => [q16Text value, toString cycles.toNat]
  | .pidCycle => []
  | .shotStart initFillMs rampMs pauseMs startPct stopPct =>
      [toString initFillMs.toNat, toString rampMs.toNat, toString pauseMs.toNat,
        toString startPct.toNat, toString stopPct.toNat]
  | .shotStop percent valve => [toString percent.toNat, valveText valve]
  | .preheatStart pumpMs stopPumpMs pauseMs =>
      [toString pumpMs.toNat, toString stopPumpMs.toNat, toString pauseMs.toNat]
  | .preheatStop percent valve => [toString percent.toNat, valveText valve]

/-- The assembler text of a command: its mnemonic, then its operands, comma-separated (R93). -/
def asmText (i : Instr) : String :=
  match operandTexts i with
  | [] => mnemonicOf i
  | o :: os => mnemonicOf i ++ " " ++ os.foldl (fun t o' => t ++ ", " ++ o') o

/-- One hexadecimal digit. -/
def hexDigit (n : Nat) : Char :=
  if n < 10 then Char.ofNat (48 + n) else Char.ofNat (55 + n)

/-- A word in hexadecimal: 32 digits, most significant first (R93). -/
def wordHex (w : CommandWord) : String :=
  String.ofList ((List.range 32).map fun k => hexDigit (w.toNat / 16 ^ (31 - k) % 16))

/-- The pseudo-commands (R94). -/
inductive Pseudo where
  /-- `TICK n` -/
  | tick (n : Nat)
  /-- `WC_STOP_ALL` -/
  | wcStopAll
  /-- `VALVE_OPEN` -/
  | valveOpen
  /-- `VALVE_CLOSE` -/
  | valveClose
deriving DecidableEq, Repr

/-- What a pseudo-command stands for (R94). -/
def expandPseudo : Pseudo → List Instr
  | .tick n => List.replicate n .tickMs
  | .wcStopAll => [.wcStop 0#8 false 0#3]
  | .valveOpen => [.poOn 2#8]
  | .valveClose => [.poOff 2#8]

end Sys2Proof.Machine
end

