-- ==== Sys2Proof/Tests/Slice0.lean ====
section
/-! SUPPORT. Tests: ill-formed commands, words written out from the encoding tables, one-step vectors
from spec/95_test_vectors.md, and for every statement with hypotheses a state that meets them. -/

-- The tests are checked one after another: a worker thread each would exceed the memory limit.
set_option Elab.async false

namespace Sys2Proof.Tests
open Sys2Proof.Machine Sys2Proof.Spec

/-! ### Fixtures -/

/-- The example parameters EX1 (95_test_vectors.md, section 0). -/
def ex1 : Cfg where
  pidMinTemp := 10
  pidMaxTemp := 140
  pidMinOutput := 2
  kpPos := 50
  kpNeg := 20
  ki := 1 / 2
  kd := 10
  samplePeriodMs := 500
  brewTemp := 95
  steamTemp := 130
  shotInitFillMs := 1000
  shotRampMs := 8000
  shotPauseMs := 0
  shotStartPct := 10
  shotStopPct := 100
  prePumpMs := 1000
  preStopPumpMs := 300
  prePauseMs := 10000
  pumpTickMs := 10
  componentPort := false
  rampFirstOffset := 10
  shotRampDiv0Ms := 0

/-- EX1 with the component port open. -/
def ex1c : Cfg := { ex1 with componentPort := true }

/-- A whole number of degrees as a q16 word. -/
def deg (n : Int) : Q16 := BitVec.ofInt 32 (n * 65536)

/-- All three sensors at one whole number of degrees. -/
def all (n : Int) : Sensors := ⟨deg n, deg n, deg n⟩

/-- Reset with EX1, all sensors at 93. -/
def s0 : State := { State.resetWith ex1 with sensors := all 93 }

/-- Reset with EX1 and the component port open. -/
def c0 : State := { State.resetWith ex1c with sensors := all 93 }

/-- `s` with the three units enabled. -/
def enabled (s : State) : State :=
  { s with pump := { s.pump with po := ⟨true, false⟩ },
           heater := { s.heater with po := ⟨true, false⟩ }, valve := ⟨true, false⟩ }

/-- What `WC_ENABLE` leaves of `s0`: the units and the controller enabled at the brew target (R217). -/
def ready : State :=
  { enabled s0 with pid := { s0.pid with en := true, target := 95, pv1 := 93, pv2 := 93 } }

/-- The controller enabled at target 95 in WATER mode, with a history, a pump level and a reading. -/
def pidState (pv1 pv2 u1 : Rat) (l : PumpLevel) (x : Sensors) : State :=
  { c0 with pid := { c0.pid with en := true, target := 95, pv1 := pv1, pv2 := pv2, u1 := u1 },
            pump := { c0.pump with level := l }, sensors := x }

/-- A shot in a stage, loaded with (1000, 8000, 0, 10, 100), its timer armed. -/
def shotState (now : Time) (g : ShotStage) (cur : Percent) : State :=
  { enabled c0 with now := now, shot :=
      ⟨true, g, 0, 0, 1000, 8000, 0, 10, 100, cur, ⟨true, now + 1⟩⟩ }

/-- A preheat in a stage, loaded with (1000, 300, 10000), its timer armed for `d`. -/
def preState (now : Time) (g : PreStage) (d : Time) : State :=
  { enabled c0 with now := now, pre := ⟨g, 1000, 300, 10000, ⟨true, d⟩⟩ }

/-- One step of `s` on the word of a command. -/
def one (i : Instr) (s : State) : Option State :=
  match step { s with feed := [.command (encode i) s.sensors] } with
  | .next t => some t
  | _ => none

/-! ### Ill-formed commands (R92 d and e) -/

theorem test_illformed_poEnable : (Instr.poEnable 3#8).wellFormed = false := by decide
theorem test_illformed_poDisable : (Instr.poDisable 255#8).wellFormed = false := by decide
theorem test_illformed_poOn : (Instr.poOn 3#8).wellFormed = false := by decide
theorem test_illformed_poOff : (Instr.poOff 3#8).wellFormed = false := by decide
theorem test_illformed_wcStop : (Instr.wcStop 0#8 false 6#3).wellFormed = false := by decide
theorem test_illformed_wcStop_7 : (Instr.wcStop 0#8 true 7#3).wellFormed = false := by decide
theorem test_wellformed_edges :
    (Instr.poEnable 2#8).wellFormed = true ∧ (Instr.wcStop 0#8 false 5#3).wellFormed = true := by
  decide

/-! ### Words written out from R81, R82, R84, R85 -/

theorem test_decode_nop : decode 0x0#128 = .ok .nop := by decide +kernel
theorem test_decode_wcEnable : decode 0x01#128 = .ok .wcEnable := by decide +kernel
theorem test_decode_wcDisable : decode 0x02#128 = .ok .wcDisable := by decide +kernel
theorem test_decode_wcStartPump : decode 0x2F03#128 = .ok (.wcStartPump 47#8 false) := by decide +kernel
theorem test_decode_wcStartShot : decode 0x04#128 = .ok .wcStartShot := by decide +kernel
theorem test_decode_wcStartPreheat : decode 0x05#128 = .ok .wcStartPreheat := by decide +kernel
theorem test_decode_wcStartSteam : decode 0x010006#128 = .ok (.wcStartSteam 0#8 true) := by
  decide +kernel
theorem test_decode_wcOverridePump :
    decode 0x000007D0_00005007#128 = .ok (.wcOverridePump 80#8 2000#32) := by decide +kernel
theorem test_decode_wcStop : decode 0x02016408#128 = .ok (.wcStop 100#8 true 2#3) := by decide +kernel
theorem test_decode_qShotTime : decode 0x10#128 = .ok .qShotTime := by decide +kernel
theorem test_decode_qPidP : decode 0x11#128 = .ok .qPidP := by decide +kernel
theorem test_decode_qPidI : decode 0x12#128 = .ok .qPidI := by decide +kernel
theorem test_decode_qPidD : decode 0x13#128 = .ok .qPidD := by decide +kernel
theorem test_decode_qPidU : decode 0x14#128 = .ok .qPidU := by decide +kernel
theorem test_decode_qPumpDuty : decode 0x15#128 = .ok .qPumpDuty := by decide +kernel
theorem test_decode_qStatus : decode 0x16#128 = .ok .qStatus := by decide +kernel
theorem test_decode_tickMs : decode 0x20#128 = .ok .tickMs := by decide +kernel
theorem test_decode_poEnable : decode 0x0280#128 = .ok (.poEnable 2#8) := by decide +kernel
theorem test_decode_poDisable : decode 0x0181#128 = .ok (.poDisable 1#8) := by decide +kernel
theorem test_decode_poOn : decode 0x0082#128 = .ok (.poOn 0#8) := by decide +kernel
theorem test_decode_poOff : decode 0x0283#128 = .ok (.poOff 2#8) := by decide +kernel
theorem test_decode_pumpSetLevel : decode 0x2F88#128 = .ok (.pumpSetLevel 47#8) := by decide +kernel
theorem test_decode_pumpTick : decode 0x89#128 = .ok .pumpTick := by decide +kernel
theorem test_decode_heaterSetDuty : decode 0x658A#128 = .ok (.heaterSetDuty 101#8) := by decide +kernel
theorem test_decode_heaterTick : decode 0x8B#128 = .ok .heaterTick := by decide +kernel
theorem test_decode_pidStart : decode 0x90#128 = .ok .pidStart := by decide +kernel
theorem test_decode_pidStop : decode 0x91#128 = .ok .pidStop := by decide +kernel
theorem test_decode_pidSetTarget :
    decode 0x00828000_00010092#128 = .ok (.pidSetTarget 0x00828000#32 true) := by decide +kernel
theorem test_decode_pidOverride :
    decode 0x00000003_00640000_00000093#128 = .ok (.pidOverride 0x00640000#32 3#32) := by
  decide +kernel
theorem test_decode_pidCycle : decode 0x94#128 = .ok .pidCycle := by decide +kernel
theorem test_decode_shotStart :
    decode 0x00000007_00001F40_000003E8_00640AA0#128 =
      .ok (.shotStart 1000#32 8000#32 7#32 10#8 100#8) := by decide +kernel
theorem test_decode_shotStop : decode 0x0105A1#128 = .ok (.shotStop 5#8 true) := by decide +kernel
theorem test_decode_preheatStart :
    decode 0x00002710_0000012C_000003E8_000000B0#128 =
      .ok (.preheatStart 1000#32 300#32 10000#32) := by decide +kernel
theorem test_decode_preheatStop : decode 0x0064B1#128 = .ok (.preheatStop 100#8 false) := by
  decide +kernel

/-- T70, T6, T66 and one must-be-zero bit of each field. -/
theorem test_decode_rejects :
    decode 0x09#128 = .error .unassignedOpcode ∧ decode 0xFF#128 = .error .unassignedOpcode ∧
    decode 0x101#128 = .error .mustBeZero ∧ decode 0x20003#128 = .error .mustBeZero ∧
    decode 0x80000000_00000000_00000000_00000020#128 = .error .mustBeZero ∧
    decode 0x08000008#128 = .error .mustBeZero ∧ decode 0x06000008#128 = .error .modeOutOfRange ∧
    decode 0x0380#128 = .error .unitOutOfRange ∧ decode 0x1_00000000_00002F88#128 = .error .mustBeZero ∧
    decode 0x01_0000008A#128 = .error .mustBeZero ∧ decode 0x010000A0#128 = .error .mustBeZero ∧
    decode 0x0100B0#128 = .error .mustBeZero := by decide +kernel

/-- On a narrower bus the least significant byte goes first (20_memory.md R62). -/
theorem test_bytes :
    decodeBytes [0x07#8, 0x50#8, 0, 0, 0xD0#8, 0x07#8, 0, 0, 0, 0, 0, 0, 0, 0, 0, 0] =
      .ok (.wcOverridePump 80#8 2000#32) ∧
    decodeBytes [0x01#8] = .error .wrongLength := by decide +kernel

/-- Every row of the table, with operands zero, decodes to its own command. -/
theorem test_table_rows :
    ∀ r ∈ opcodeTable, (decodeTableWord 128 r.pattern.toNat).map mnemonicOf = some r.mnemonic := by
  decide +kernel

/-- Whether a step answers a next state. -/
def goesOn (o : Host.Outcome State Fault Refusal) : Bool :=
  match o with
  | .next _ => true
  | _ => false

/-- The kernel runs every row as the first command after reset, whatever the open parameters are. -/
theorem test_first_steps :
    opcodeTable.map (fun r => goesOn (step (State.reset.withFetchWord 128 r.pattern.toNat))) =
      List.replicate 34 true := by rfl

/-! ### The textual form (R93, R94) -/

theorem test_asm_target : asmText (.pidSetTarget 0x00828000#32 true) = "PID_SET_TARGET 130.5, STEAM" := by
  decide +kernel
theorem test_asm_stop : asmText (.wcStop 100#8 true 2#3) = "WC_STOP 100, open, WATER_VALVE" := by
  decide +kernel
theorem test_asm_hex : wordHex (encode (.pumpSetLevel 47#8)) = "00000000000000000000000000002F88" := by
  decide +kernel
theorem test_asm_pseudo : expandPseudo (.tick 2) = [.tickMs, .tickMs] := by decide

/-! ### One-step vectors of 95_test_vectors.md -/

/-- T72. -/
theorem test_nop : one .nop s0 = some s0 := by decide +kernel

/-- T60: status 0x47, the brew target, the history at the reading. -/
theorem test_wcEnable :
    (one .wcEnable s0).map (fun t => (statusWord t, t.pid.target, t.pid.pv1, t.pid.pv2)) =
      some (0x47#64, 95, 93, 93) := by decide +kernel

/-- R218's example: everything off, the history kept. -/
theorem test_wcDisable :
    (one .wcDisable { shotState 12000 .full 100 with valve := ⟨true, true⟩ }).map
      (fun t => (statusWord t, t.shot.stopTime, t.pid.target)) = some (0x0#64, 12000, 10) := by
  decide +kernel

/-- R219's example: 47 percent is level 50, mode WATER. -/
theorem test_wcStartPump :
    (one (.wcStartPump 47#8 false) (enabled s0)).map
      (fun t => (t.pump.level, t.valve.out, t.wc.mode, t.pid.target)) =
      some (.l50, false, .water, 95) := by decide +kernel

/-- T61: INIT_FILL, mode SHOT, pump 100, valve open. -/
theorem test_wcStartShot :
    (one .wcStartShot ready).map (fun t => (statusWord t, t.shot.timer.deadline)) =
      some (0x64061367#64, 1000) := by decide +kernel

/-- T65: rejected arguments still record the mode. -/
theorem test_wcStartShot_rejected :
    (one .wcStartShot { enabled s0 with cfg := { ex1 with shotStopPct := 101#8 } }).map statusWord =
      some 0x64260027#64 := by decide +kernel

/-- T62: PUMP_ON, mode PREHEAT. -/
theorem test_wcStartPreheat :
    (one .wcStartPreheat ready).map statusWord = some 0x64088467#64 := by
  decide +kernel

/-- T63: the pump and valve of the command, not of the stop. -/
theorem test_wcStartSteam :
    (one (.wcStartSteam 0#8 false) ready).map
      (fun t => (statusWord t, t.pid.target)) = some (0xA00C7#64, 130) := by decide +kernel

/-- R224's example. -/
theorem test_wcOverridePump :
    (one (.wcOverridePump 80#8 2000#32) { s0 with now := 5000 }).map (fun t => (t.pump.level, t.wc)) =
      some (.l80, ⟨.off, true, 80, 2000, 5000⟩) := by decide +kernel

/-- P5: an override 1999 ms old wins. -/
theorem test_wcStop_wins :
    (one (.wcStop 0#8 false 0#3) { s0 with now := 6999, wc := ⟨.off, true, 80, 2000, 5000⟩ }).map
      (fun t => (t.pump.level, t.wc.ovrActive)) = some (.l80, true) := by decide +kernel

/-- P5: an override 2000 ms old is cleared. -/
theorem test_wcStop_expired :
    (one (.wcStop 0#8 false 0#3) { s0 with now := 7000, wc := ⟨.off, true, 80, 2000, 5000⟩ }).map
      (fun t => (t.pump.level, t.wc)) = some (.l0, ⟨.off, false, 0, 0, 0⟩) := by decide +kernel

/-- R245's example. -/
theorem test_qShotTime :
    (one .qShotTime { s0 with now := 12000, shot := { s0.shot with startTime := 9001 } }).map (·.rsp) =
      some (some (.word 2999)) := by decide +kernel

/-- The frozen time and the violation (R184). -/
theorem test_qShotTime_violation :
    (one .qShotTime { s0 with shot := { s0.shot with startTime := 5, stopTime := 4 } }).map
      (fun t => (t.rsp, t.err.shotTime)) = some (some (.word 0), true) := by decide +kernel

/-- T71: `-10`, `1/8`, `-1/4` and `279/4` on the port. -/
theorem test_port_words :
    portWord (.rational (-10)) = 0xFFFFFFFFFFF60000#64 ∧ portWord (.rational (1 / 8)) = 0x2000#64 ∧
    portWord (.rational (-1 / 4)) = 0xFFFFFFFFFFFFC000#64 ∧
    portWord (.rational (279 / 4)) = 0x45C000#64 := by decide +kernel

/-- The four PID queries read four different registers (R246 to R249). -/
theorem test_pid_queries :
    (let s := { s0 with pid := { s0.pid with p := 1, i := 2, d := 3, u := 4 } }
     [(one .qPidP s).bind (·.rsp), (one .qPidI s).bind (·.rsp), (one .qPidD s).bind (·.rsp),
      (one .qPidU s).bind (·.rsp)]) =
      [some (.rational 1), some (.rational 2), some (.rational 3), some (.rational 4)] := by
  decide +kernel

theorem test_qPumpDuty :
    (one .qPumpDuty { s0 with pump := { s0.pump with level := .l70 } }).bind (·.rsp) =
      some (.word 70) := by decide +kernel

/-- P3: the status of a flowing shot. -/
theorem test_qStatus :
    (one .qStatus { enabled s0 with
      pid := { s0.pid with en := true }
      pump := ⟨⟨true, true⟩, .l100, 0, 0⟩
      heater := ⟨⟨true, true⟩, 100, 0⟩
      valve := ⟨true, true⟩
      shot := { s0.shot with active := true, stage := .full }
      wc := { s0.wc with mode := .shot } }).bind (·.rsp) = some (.word 0x646406417F#64) := by
  decide +kernel

/-- P4: HOLD to PAUSE at its millisecond, after the ticks, before the PID cycle. -/
theorem test_tickMs_fires :
    (one .tickMs (preState 1306 .hold 1307)).map (fun t => (t.now, t.pre.stage, t.pre.timer.deadline)) =
      some (1307, .pause, 11307) := by decide +kernel

/-- T42: INIT_FILL and the end of the ramp in one millisecond. -/
theorem test_tickMs_refires :
    (one .tickMs { shotState 299 .initFill 0 with
      shot := ⟨true, .initFill, 0, 0, 300, 1000, 0, 50, 50, 0, ⟨true, 300⟩⟩ }).map
      (fun t => (t.pump.level, t.shot.stage, t.shot.startTime, t.pid.ovrCount)) =
      some (.l100, .full, 300, 3) := by decide +kernel

/-- T4: enabling leaves the output. -/
theorem test_poEnable : (one (.poEnable 2#8) c0).map (·.valve) = some ⟨true, false⟩ := by decide +kernel

/-- T3. -/
theorem test_poDisable :
    (one (.poDisable 2#8) { c0 with valve := ⟨true, true⟩ }).map (·.valve) = some ⟨false, false⟩ := by
  decide +kernel

/-- T1, T2. -/
theorem test_poOn :
    (one (.poOn 2#8) c0).map (·.valve) = some ⟨false, false⟩ ∧
    (one (.poOn 2#8) (enabled c0)).map (·.valve) = some ⟨true, true⟩ := by decide +kernel

/-- T5. -/
theorem test_poOff :
    (one (.poOff 2#8) { c0 with valve := ⟨true, true⟩ }).map (·.valve) = some ⟨true, false⟩ := by
  decide +kernel

/-- T10, T15. -/
theorem test_bucket :
    [0, 4, 5, 9, 14, 15, 24, 25, 44, 45, 47, 94, 95, 101, 255].map
      (fun n => levelPercent (bucket (BitVec.ofNat 8 n))) =
      [0, 0, 10, 10, 10, 20, 20, 30, 40, 50, 50, 90, 100, 100, 100] := by decide +kernel

theorem test_pumpSetLevel : (one (.pumpSetLevel 255#8) c0).map (·.pump.level) = some .l100 := by
  decide +kernel

/-- T12, first tick: level 20 at position 9 is position 4, off; the next position is 0. -/
theorem test_pumpTick_wraps :
    (one .pumpTick { c0 with pump := ⟨⟨true, true⟩, .l20, 9, 0⟩ }).map
      (fun t => (t.pump.po.out, t.pump.pos)) = some (false, 0) := by decide +kernel

/-- T14: a disabled tick does not advance. -/
theorem test_pumpTick_disabled :
    (one .pumpTick { c0 with pump := ⟨⟨false, false⟩, .l100, 3, 7⟩ }).map (·.pump) =
      some ⟨⟨false, false⟩, .l100, 3, 7⟩ := by decide +kernel

/-- T22: above 100 the duty is 0 and the flag is set, not saturated. -/
theorem test_heaterSetDuty :
    (one (.heaterSetDuty 101#8) { c0 with heater := ⟨⟨false, false⟩, 42, 0⟩ }).map
      (fun t => (t.heater.duty, t.err.heaterRange)) = some (0, true) := by decide +kernel

/-- T20, second and third ticks: the wrap, and position 0 below the duty. -/
theorem test_heaterTick :
    (one .heaterTick { c0 with heater := ⟨⟨true, false⟩, 3, 99⟩ }).map (·.heater) =
      some ⟨⟨true, false⟩, 3, 0⟩ ∧
    (one .heaterTick { c0 with heater := ⟨⟨true, false⟩, 3, 0⟩ }).map (·.heater) =
      some ⟨⟨true, true⟩, 3, 1⟩ := by decide +kernel

/-- T3E. -/
theorem test_pidStart :
    (one .pidStart { pidState 5 6 77 .l0 ⟨deg 20, deg 21, 0x00148000#32⟩ with
      heater := ⟨⟨false, false⟩, 33, 0⟩ }).map
      (fun t => (t.pid.pv1, t.pid.pv2, t.pid.u1, t.heater.duty, t.pid.en)) =
      some (21, 21, 0, 0, true) := by decide +kernel

/-- R149's example. -/
theorem test_pidStop :
    (one .pidStop { pidState 5 6 77 .l0 (all 20) with heater := ⟨⟨false, false⟩, 42, 0⟩ }).map
      (fun t => (t.pid.en, t.heater.duty, t.pid.u1)) = some (false, 0, 77) := by decide +kernel

/-- T3D: 140 is out, -5 is out, 10 and 95 are in; the mode is stored in every case. -/
theorem test_pidSetTarget :
    [140, -5, 10, 95].map (fun n => (one (.pidSetTarget (deg n) true) c0).map
      (fun t => (t.pid.target, t.pid.mode))) =
      [some (10, .steam), some (10, .steam), some (10, .steam), some (95, .steam)] := by decide +kernel

theorem test_pidOverride :
    (one (.pidOverride 0xFFFF8000#32 7#32) c0).map (fun t => (t.pid.ovrValue, t.pid.ovrCount)) =
      some (-1 / 2, 7) := by decide +kernel

/-- T30, and T33 with the dry clamp. -/
theorem test_pidCycle :
    (one .pidCycle (pidState 94 93 30 .l0 ⟨0x005E8000#32, 0x005E8000#32, 0x005E8000#32⟩)).map
      (fun t => (t.pid.p, t.pid.i, t.pid.d, t.pid.u, t.heater.duty)) =
      some (-10, 1 / 8, 10, 241 / 8, 30) ∧
    (one .pidCycle (pidState 96 96 40 .l0 ⟨0x005F8000#32, 0x005F8000#32, 0x005F8000#32⟩)).map
      (fun t => (t.pid.u, t.pid.u1, t.heater.duty)) = some (599 / 8, 5, 5) := by decide +kernel

/-- T39: an override of 3/2 with count 1: the duty is raised to 2, the history is not. -/
theorem test_pidCycle_override :
    (let s := pidState 95 95 20 .l0 (all 95)
     (one .pidCycle { s with pid := { s.pid with ovrValue := 3 / 2, ovrCount := 1 } }).map
      (fun t => (t.heater.duty, t.pid.u1, t.pid.ovrCount))) = some (2, 3 / 2, 0) := by decide +kernel

/-- T40, first row; T45. -/
theorem test_shotStart :
    (one (.shotStart 1000#32 8000#32 0#32 10#8 100#8) (enabled c0)).map
      (fun t => (t.shot.stage, t.pump.level, t.valve.out, t.shot.timer)) =
      some (.initFill, .l100, true, ⟨true, 1000⟩) ∧
    (one (.shotStart 5001#32 0#32 0#32 0#8 0#8) (enabled c0)).map
      (fun t => (t.shot.active, t.err.cfgReject)) = some (false, true) := by decide +kernel

/-- T48. -/
theorem test_rampInterval :
    [(10, 100, 8000), (10, 60, 8000), (15, 100, 8000), (0, 100, 4), (0, 100, 5), (0, 1, 10000),
      (50, 50, 8000)].map (fun (x : Nat × Nat × Nat) => rampInterval { c0 with shot :=
        { c0.shot with startPct := BitVec.ofNat 8 x.1, stopPct := BitVec.ofNat 8 x.2.1,
                       rampMs := BitVec.ofNat 32 x.2.2 } }) =
      [889, 1600, 941, 0, 1, 100000, 0] := by decide +kernel

/-- T40 to 3000, then the stop of T47. -/
theorem test_shotStop :
    (one (.shotStop 0#8 false) (shotState 3000 .ramp 40)).map
      (fun t => (t.shot.stage, t.shot.timer.armed, t.shot.stopTime, t.shot.startTime, t.pump.level)) =
      some (.idle, false, 3000, 0, .l0) := by decide +kernel

/-- T50, first row; T52. -/
theorem test_preheatStart :
    (one (.preheatStart 1000#32 300#32 10000#32) { enabled c0 with now := 7 }).map
      (fun t => (t.pre.stage, t.pump.level, t.valve.out, t.pre.timer)) =
      some (.pumpOn, .l100, true, ⟨true, 1007⟩) ∧
    (one (.preheatStart 99#32 300#32 10000#32) (enabled c0)).map
      (fun t => (t.pre.stage, t.err.cfgReject)) = some (.off, true) := by decide +kernel

/-- T50, the stop; it acts in OFF as well. -/
theorem test_preheatStop :
    (one (.preheatStop 50#8 true) (enabled c0)).map
      (fun t => (t.pre.stage, t.pump.level, t.valve.out)) = some (.off, .l50, true) := by decide +kernel

/-- T70: a component opcode with the port closed. -/
theorem test_port_closed :
    (one (.pumpSetLevel 47#8) s0).map (fun t => (statusWord t, t.rsp)) = some (0x800000#64, none) := by
  decide +kernel

/-! ### Witnesses: for each statement with hypotheses, states and operands that meet them, clause by
clause, at the edges of the ranges -/

theorem ex1_legal : ex1.Legal := by constructor <;> decide +kernel
theorem ex1c_legal : ex1c.Legal := by constructor <;> decide +kernel

/-- A running preheat: the register invariants hold of it. -/
theorem preState_inv : RegInv (preState 0 .pumpOn 1000) where
  legal := ex1c_legal
  pumpGate := by decide
  heaterGate := by decide
  valveGate := by decide
  targetLow := by decide +kernel
  targetHigh := by decide +kernel
  u1Low := by decide +kernel
  u1High := by decide +kernel
  shotStage := by decide
  shotTimer := by decide
  preTimer := by decide
  rampOrder := by decide
  rampTop := by decide
  curBound := by decide
  fillBound := by decide
  rampBound := by decide
  pauseBound := by decide
  preBounds := by decide
  startPast := by decide
  stopPast := by decide
  overridePast := by decide
  timesOrdered := by decide
  fullStamped := by decide

/-- A flowing shot at `now = 12000`: the register invariants hold of it. -/
theorem shotState_inv : RegInv { shotState 12000 .full 100 with shot :=
    ⟨true, .full, 9001, 0, 1000, 8000, 0, 10, 100, 100, ⟨false, 0⟩⟩ } where
  legal := ex1c_legal
  pumpGate := by decide
  heaterGate := by decide
  valveGate := by decide
  targetLow := by decide +kernel
  targetHigh := by decide +kernel
  u1Low := by decide +kernel
  u1High := by decide +kernel
  shotStage := by decide
  shotTimer := by decide
  preTimer := by decide
  rampOrder := by decide
  rampTop := by decide
  curBound := by decide
  fillBound := by decide
  rampBound := by decide
  pauseBound := by decide
  preBounds := by decide
  startPast := by decide
  stopPast := by decide
  overridePast := by decide
  timesOrdered := by decide
  fullStamped := by decide

theorem witness_ResetInputRestoresTheResetRegisters :
    ({ preState 5 .hold 9 with feed := [.reset, .reset] }).feed = .reset :: [.reset] := rfl

theorem witness_DecodeOfEncodeIsTheCommand :
    (Instr.wcStop 255#8 true 5#3).wellFormed = true ∧ (Instr.poOn 2#8).wellFormed = true ∧
    (Instr.shotStart 0xFFFFFFFF#32 0#32 1#32 255#8 0#8).wellFormed = true := by decide

theorem witness_OnlyEncodingsDecode : decode 0x02016408#128 = .ok (.wcStop 100#8 true 2#3) := by
  decide +kernel

theorem witness_DecoderAgreesWithTheMaskTable :
    ∀ r ∈ opcodeTable, r.accepts r.pattern = true := by decide +kernel

theorem witness_StepRunsTheDecodedCommand :
    ({ s0 with feed := [.command 0x20#128 (all 93), .reset] }).feed =
      .command 0x20#128 (all 93) :: [.reset] ∧ decode 0x20#128 = .ok .tickMs :=
  ⟨rfl, by decide +kernel⟩

/-- An unassigned opcode, a must-be-zero bit, and a component word with the port closed. -/
theorem witness_IllegalWordsOnlySetTheirFlag :
    ({ s0 with feed := [.command 0x09#128 (all 93)] }).feed = .command 0x09#128 (all 93) :: [] ∧
    Illegal ex1c 0x09#128 ∧ Illegal ex1c 0x101#128 ∧ Illegal ex1 0x2F88#128 := by
  refine ⟨rfl, ?_, ?_, ?_⟩ <;> unfold Illegal <;> decide +kernel

theorem witness_ComponentCommandsNeedThePort :
    (Instr.pidCycle).isComponent = true ∧ s0.cfg.componentPort = false := by decide

theorem witness_PoEnableLeavesTheOutput : c0.cfg.componentPort = true := rfl

theorem witness_PoDisableForcesOff : (enabled c0).cfg.componentPort = true := rfl

theorem witness_PoOnNeedsTheEnable :
    c0.cfg.componentPort = true ∧ (unitBits .valve c0).en = false ∧
    (enabled c0).cfg.componentPort = true ∧ (unitBits .valve (enabled c0)).en = true := by decide

theorem witness_PoOffAlwaysActs : (enabled c0).cfg.componentPort = true := rfl

theorem witness_BucketRoundsToTheNearestTen :
    (4#8).toNat < (5#8).toNat ∧ (94#8).toNat < (95#8).toNat ∧ (100#8).toNat ≤ 100 := by decide

theorem witness_PumpSetLevelStoresTheBucket : c0.cfg.componentPort = true := rfl

/-- Disabled and enabled, with the port open and, in a tick of `TICK_MS`, closed. -/
theorem witness_PumpTickEmitsTheTable :
    c0.cfg.componentPort = true ∧ c0.pump.po.en = false ∧ (enabled c0).cfg.componentPort = true ∧
    (enabled c0).pump.po.en = true ∧ (enabled s0).cfg.componentPort = false ∧
    (enabled s0).pump.po.en = true := by decide

theorem witness_PumpIsOnForItsShareOfWholePeriods :
    ({ enabled c0 with pump := ⟨⟨true, false⟩, .l30, 9, 0⟩ }).pump.po.en = true := rfl

theorem witness_HeaterSetDutyRejectsAboveHundred :
    c0.cfg.componentPort = true ∧ (100 : Fin 101).val = (100#8).toNat ∧ (101#8).toNat > 100 := by
  decide

theorem witness_HeaterTickComparesAndAdvances :
    (enabled c0).cfg.componentPort = true ∧ (enabled s0).cfg.componentPort = false := ⟨rfl, rfl⟩

theorem witness_HeaterIsOnForItsDutyOfAFullCycle :
    ({ enabled c0 with heater := ⟨⟨true, false⟩, 100, 63⟩ }).heater.po.en = true := rfl

theorem witness_PidStartResetsTheHistory : c0.cfg.componentPort = true := rfl
theorem witness_PidStopKeepsTheHistory :
    (pidState 94 93 30 .l0 (all 94)).cfg.componentPort = true := rfl
theorem witness_PidSetTargetReplacesIllegalTargets : c0.cfg.componentPort = true := rfl
theorem witness_PidOverrideReplacesThePendingOne : c0.cfg.componentPort = true := rfl

/-- A disabled controller, an enabled one with the thirteen values of its cycle, and an enabled one with
the port closed. -/
theorem witness_PidCycleComputesTheNineSteps :
    (c0.cfg.componentPort = true ∧ c0.cfg.Legal ∧ c0.pid.en = false) ∧
    (ready.cfg.componentPort = false ∧ ready.cfg.Legal ∧ ready.pid.en = true) ∧
    ∃ (s : State) (pv e kp ts p i d u a b out uc ut : Rat), s = pidState 96 96 40 .l0 (all 96) ∧
      s.cfg.componentPort = true ∧ s.cfg.Legal ∧ s.pid.en = true ∧
      pv = processValue s.pid.mode s.sensors ∧ e = s.pid.target - pv ∧
      kp = (if pv < s.pid.pv1 ∨ s.pid.mode = .steam then s.cfg.kpPos else s.cfg.kpNeg) ∧
      p = kp * (s.pid.pv1 - pv) ∧ ts = (s.cfg.samplePeriodMs : Rat) / 1000 ∧
      i = s.cfg.ki * ts * e ∧ d = s.cfg.kd * (2 * s.pid.pv1 - pv - s.pid.pv2) / ts ∧
      u = s.pid.u1 + p + i + d ∧ a = (if e > 10 then 100 else u) ∧
      b = (if levelPercent s.pump.level = 0 ∧ pv ≥ s.pid.target + 1 / 2 then min a 5 else a) ∧
      out = (if s.pid.ovrCount.toNat > 0 then s.pid.ovrValue else b) ∧
      uc = min (max out 0) 100 ∧
      ut = (if 0 < uc ∧ uc ≤ s.cfg.pidMinOutput then s.cfg.pidMinOutput else uc) :=
  ⟨⟨rfl, ex1c_legal, rfl⟩, ⟨rfl, ex1_legal, rfl⟩, _, _, _, _, _, _, _, _, _, _, _, _, _, _, rfl, rfl, ex1c_legal, rfl, rfl,
    rfl, rfl, rfl, rfl, rfl, rfl, rfl, rfl, rfl, rfl, rfl, rfl⟩

/-- Three cycles under an override of count three, one of them on a failed sensor. -/
theorem witness_PidOverrideHoldsForItsCycles :
    ∃ (s : State) (v : Rat) (xs : List Sensors), s.cfg.Legal ∧ s.pid.en = true ∧
      s.pid.ovrValue = v ∧ 0 ≤ v ∧ v ≤ 100 ∧ xs ≠ [] ∧ xs.length ≤ s.pid.ovrCount.toNat ∧
      xs = [all 95, all 999, all 94] ∧ v = 100 ∧ s.pid.ovrCount = 3 :=
  ⟨{ pidState 95 95 20 .l0 (all 95) with
      pid := { (pidState 95 95 20 .l0 (all 95)).pid with ovrValue := 100, ovrCount := 3 } },
    100, [all 95, all 999, all 94], ex1c_legal, rfl, rfl, by decide +kernel, by decide +kernel,
    by simp, by decide, rfl, rfl, rfl⟩

theorem witness_ShotStartValidatesThenStarts :
    c0.cfg.componentPort = true ∧ (shotState 3000 .ramp 40).shot.active = true ∧
    c0.shot.active = false ∧
    ShotArgsOut 0#32 8000#32 0#32 10#8 100#8 ∧ ShotArgsOut 5001#32 0#32 0#32 0#8 0#8 ∧
    ShotArgsOut 1000#32 10001#32 0#32 10#8 100#8 ∧ ShotArgsOut 1000#32 10000#32 10001#32 10#8 100#8 ∧
    ShotArgsOut 1000#32 8000#32 0#32 60#8 50#8 ∧ ShotArgsOut 1000#32 8000#32 0#32 10#8 101#8 ∧
    ¬ ShotArgsOut 1#32 0#32 0#32 0#8 0#8 ∧ ¬ ShotArgsOut 5000#32 10000#32 10000#32 100#8 100#8 := by
  unfold ShotArgsOut; decide

theorem witness_RampIntervalRoundsToTheNearest :
    c0.shot.stopPct = c0.shot.startPct ∧
    (1 : Int) = (((51#8 : Percent).toNat : Int) - (50#8 : Percent).toNat) ∧ (0 : Int) < 1 := by decide

/-- An INIT_FILL fire; no shot active; an active shot in IDLE (which no run reaches) and in FULL. -/
theorem witness_InitFillFireEntersRamp :
    ((shotState 999 .initFill 0).cfg.Legal ∧ (shotState 999 .initFill 0).shot.active = true ∧
      (shotState 999 .initFill 0).shot.stage = .initFill ∧
      (shotState 999 .initFill 0).shot.startPct.toNat ≤ 100) ∧
    c0.shot.active = false ∧ (shotState 999 .idle 0).shot.stage = .idle ∧
    (shotState 12000 .full 100).shot.stage = .full :=
  ⟨⟨ex1c_legal, rfl, rfl, by decide⟩, rfl, rfl, rfl⟩

/-- The last step below 100, past the first step, and the first step. -/
theorem witness_RampFireStepsThePump :
    (shotState 8111 .ramp 90).shot.active = true ∧ (shotState 8111 .ramp 90).shot.stage = .ramp ∧
    (shotState 8111 .ramp 90).shot.curPct.toNat ≤ (shotState 8111 .ramp 90).shot.stopPct.toNat ∧
    (shotState 8111 .ramp 90).shot.curPct.toNat < 100 ∧
    (shotState 8111 .ramp 90).shot.curPct.toNat >
      (shotState 8111 .ramp 90).shot.startPct.toNat + ex1c.rampFirstOffset ∧
    ¬ (shotState 1888 .ramp 20).shot.curPct.toNat >
      (shotState 1888 .ramp 20).shot.startPct.toNat + ex1c.rampFirstOffset := by decide

theorem witness_RampEndsInPauseOrFull :
    ∃ s : State, s = { shotState 2899 .ramp 70 with shot :=
        ⟨true, .ramp, 0, 0, 500, 2000, 1, 10, 69, 70, ⟨true, 2900⟩⟩ } ∧
      s.shot.active = true ∧ s.shot.stage = .ramp ∧ s.shot.curPct.toNat > s.shot.stopPct.toNat ∧
      s.shot.pauseMs.toNat > 0 ∧
      (shotState 9000 .ramp 100).shot.active = true ∧ (shotState 9000 .ramp 100).shot.stage = .ramp ∧
      (shotState 9000 .ramp 100).shot.pauseMs.toNat = 0 ∧
      (shotState 9000 .ramp 100).shot.curPct.toNat ≥ 100 ∧
      (shotState 4399 .pause 70).shot.active = true ∧ (shotState 4399 .pause 70).shot.stage = .pause :=
  ⟨_, rfl, by decide⟩

theorem witness_ShotStopDisarmsAndRests :
    c0.cfg.componentPort = true ∧ c0.shot.active = false ∧
    (shotState 3000 .ramp 40).cfg.componentPort = true ∧
    (shotState 3000 .ramp 40).shot.active = true := by decide

/-- The start and stop stamps of each clause, with `now = 9001`; the order of the stamps at equality and
one off. -/
theorem witness_ShotTimeIsAnsweredByCase :
    ∃ f : Time → Time → State,
      f = (fun a b => { s0 with now := 9001, shot := { s0.shot with startTime := a, stopTime := b } }) ∧
      (f 0 7).shot.startTime = 0 ∧
      ((f 9001 0).shot.startTime ≠ 0 ∧ (f 9001 0).shot.stopTime = 0 ∧
        (f 9001 0).shot.startTime.toNat ≤ (f 9001 0).now.toNat) ∧
      ((f 9002 0).shot.startTime ≠ 0 ∧ (f 9002 0).shot.stopTime = 0 ∧
        (f 9002 0).now.toNat < (f 9002 0).shot.startTime.toNat) ∧
      ((f 5 5).shot.startTime ≠ 0 ∧ (f 5 5).shot.stopTime ≠ 0 ∧
        (f 5 5).shot.startTime.toNat ≤ (f 5 5).shot.stopTime.toNat) ∧
      ((f 5 4).shot.startTime ≠ 0 ∧ (f 5 4).shot.stopTime ≠ 0 ∧
        (f 5 4).shot.stopTime.toNat < (f 5 4).shot.startTime.toNat) :=
  ⟨_, rfl, by decide⟩

theorem witness_PreheatStartValidatesThenStarts :
    c0.cfg.componentPort = true ∧ (preState 0 .pumpOn 1000).pre.stage ≠ .off ∧ c0.pre.stage = .off ∧
    PreArgsOut 99#32 300#32 10000#32 ∧ PreArgsOut 5001#32 300#32 10000#32 ∧
    PreArgsOut 1000#32 2001#32 10000#32 ∧ PreArgsOut 1000#32 300#32 3999#32 ∧
    PreArgsOut 1000#32 300#32 50001#32 ∧ ¬ PreArgsOut 100#32 0#32 4000#32 ∧
    ¬ PreArgsOut 5000#32 2000#32 50000#32 := by
  unfold PreArgsOut; decide

theorem witness_PreheatFiresCycleTheStages :
    (preState 1007 .pumpOn 1007).pre.stage = .pumpOn ∧ (preState 1307 .hold 1307).pre.stage = .hold ∧
    (preState 11307 .pause 11307).pre.stage = .pause ∧ c0.pre.stage = .off := by decide

theorem witness_PreheatStopIsUnconditional : c0.cfg.componentPort = true := rfl

/-- An override one millisecond before its end wins; at its end, inactive, or of duration 0 it does
not, whatever its stamp; one of a duration with a stamp in the future is left open. -/
theorem witness_StopArbitratesThePumpOverride :
    wins { s0 with now := 6999, wc := ⟨.off, true, 80, 2000, 5000⟩ } ∧
    loses { s0 with now := 7000, wc := ⟨.off, true, 80, 2000, 5000⟩ } ∧ loses s0 ∧
    loses { s0 with now := 4999, wc := ⟨.off, true, 80, 0, 5000⟩ } ∧
    ¬ wins { s0 with now := 4999, wc := ⟨.off, true, 80, 1, 5000⟩ } ∧
    ¬ loses { s0 with now := 4999, wc := ⟨.off, true, 80, 1, 5000⟩ } := by
  unfold wins loses; decide

theorem witness_StartShotStopsThenStarts :
    ({ s0 with wc := ⟨.shot, false, 0, 0, 0⟩ }).wc.mode = .shot ∧ s0.wc.mode ≠ .shot ∧
    ShotArgsOut 1000#32 8000#32 0#32 10#8 101#8 ∧
    ¬ ShotArgsOut s0.cfg.shotInitFillMs s0.cfg.shotRampMs s0.cfg.shotPauseMs s0.cfg.shotStartPct
      s0.cfg.shotStopPct := by
  unfold ShotArgsOut; decide

theorem witness_StartPreheatStopsThenStarts :
    ({ s0 with wc := ⟨.preheat, false, 0, 0, 0⟩ }).wc.mode = .preheat ∧ s0.wc.mode ≠ .preheat ∧
    PreArgsOut 99#32 300#32 10000#32 ∧
    ¬ PreArgsOut s0.cfg.prePumpMs s0.cfg.preStopPumpMs s0.cfg.prePauseMs := by
  unfold PreArgsOut; decide

theorem witness_StartSteamLeavesItsOwnOutputs :
    ({ s0 with wc := ⟨.steam, false, 0, 0, 0⟩ }).wc.mode = .steam ∧ s0.wc.mode ≠ .steam := by decide

/-- A rational at each end of the three ranges of the port word, and one off. -/
theorem witness_NopAndQueriesChangeNoRegister :
    (((-2 ^ 63 - 1 : Rat) / 65536) * 65536).floor < -2 ^ 63 ∧
    (((-2 ^ 63 : Rat) / 65536) * 65536).floor = -2 ^ 63 ∧
    (((2 ^ 63 - 1 : Rat) / 65536) * 65536).floor = 2 ^ 63 - 1 ∧
    2 ^ 63 ≤ (((2 ^ 63 : Rat) / 65536) * 65536).floor := by decide +kernel

/-- No timer due; and the Preheat timer due once, into a stage that is not due again. -/
theorem witness_TickRunsTheEventsInOrder :
    (s0.now.toNat + 1 < 2 ^ 64 ∧ 0 ≤ 16 ∧ Settles 0 (afterTicks s0) (afterTicks s0)) ∧
    ((preState 1306 .hold 1307).now.toNat + 1 < 2 ^ 64 ∧ 1 ≤ 16 ∧
      Settles 1 (afterTicks (preState 1306 .hold 1307))
        (preheatTimerFire (afterTicks (preState 1306 .hold 1307)))) :=
  ⟨⟨by decide, by decide, .done _ (by decide +kernel) (by decide +kernel)⟩,
    by decide, by decide,
    .preheat 0 _ _ (by decide +kernel) (by decide +kernel) (by decide +kernel)
      (.done _ (by decide +kernel) (by decide +kernel))⟩

theorem witness_TickIsRefusedAtTheEndOfTheClock :
    ({ s0 with now := 0xFFFFFFFFFFFFFFFF#64 }).now.toNat = 2 ^ 64 - 1 := by decide

/-- At the tick of `now = 1000` the Preheat timer is due, and with no HOLD it fires twice. -/
theorem witness_TimersSettleWithinFourteenFires :
    ∃ s : State, s = { preState 999 .pumpOn 1000 with pre := ⟨.pumpOn, 1000, 0, 10000, ⟨true, 1000⟩⟩ } ∧
      RegInv s ∧ ClockRoom s ∧ preDue (afterTicks s) = true ∧
      preDue (preheatTimerFire (afterTicks s)) = true :=
  ⟨_, rfl, { preState_inv with
      preTimer := by decide, preBounds := by decide
      startPast := by decide, stopPast := by decide, overridePast := by decide },
    by unfold ClockRoom; decide, by decide +kernel, by decide +kernel⟩

/-- The first and the last millisecond of PUMP_ON, HOLD and PAUSE, in the first cycle and a later one. -/
theorem witness_PreheatCycleRepeatsExactly :
    ∃ (s : State) (n : Nat), RegInv s ∧ s.shot.active = false ∧ s.pre.stage = .pumpOn ∧
      s.pre.timer.deadline.toNat = s.now.toNat + s.pre.pumpMs.toNat ∧
      n = s.pre.pumpMs.toNat + s.pre.stopPumpMs.toNat + s.pre.pauseMs.toNat ∧ n = 11300 ∧
      s.pre.pumpMs.toNat = 1000 ∧ s.pre.stopPumpMs.toNat = 300 ∧
      ∀ k ∈ [0, 3], ∀ j ∈ [0, 999, 1000, 1299, 1300, 11299],
        j < n ∧ s.now.toNat + (k * n + j) + 2 ^ 32 < 2 ^ 64 :=
  ⟨preState 0 .pumpOn 1000, 11300, preState_inv, by decide⟩

theorem witness_StepKeepsTheRegisterInvariants :
    ∃ s t : State, RegInv s ∧ step s = .next t ∧ s.shot.stage = .full :=
  ⟨_, _, shotState_inv, rfl, rfl⟩

theorem witness_ResetMeetsTheInvariants : ex1.Legal ∧ ex1c.Legal := ⟨ex1_legal, ex1c_legal⟩

/-- A preheat with its mode, under host commands, and a step that is a `WC_START_SHOT`. -/
theorem witness_HostStepsKeepOneSequencer :
    ∃ s t : State, s.cfg.componentPort = false ∧ OneSequencer s ∧ step s = .next t ∧
      s.pre.stage = .pumpOn ∧ s.feed = [.command (encode .wcStartShot) (all 93)] :=
  ⟨{ preState 0 .pumpOn 1000 with
      cfg := ex1, wc := ⟨.preheat, false, 0, 0, 0⟩
      feed := [.command (encode .wcStartShot) (all 93)] }, _, rfl, ⟨by decide, by decide⟩, rfl, rfl, rfl⟩

theorem witness_ErrorFlagsAreSticky :
    ∃ (s t : State) (e : ErrFlag), s.feed.head? ≠ some .reset ∧ step s = .next t ∧
      getFlag e s.err = true :=
  ⟨{ s0 with err := ⟨false, true, false, false⟩, feed := [.command (encode .wcEnable) (all 93)] }, _,
    .cfgReject, by decide, rfl, rfl⟩

/-- Each cause of the table, and a command that has none of them. -/
theorem witness_OnlyTheNamedCausesRaiseErrors :
    c0.cfg.Legal ∧
    (∃ t, exec (.heaterSetDuty 101#8) c0 = .next t ∧ t.err.heaterRange = true) ∧
    (∃ t, exec (.shotStart 0#32 0#32 0#32 0#8 0#8) c0 = .next t ∧ t.err.cfgReject = true) ∧
    (∃ t, exec .qShotTime { c0 with shot := { c0.shot with startTime := 5, stopTime := 4 } } = .next t ∧
      t.err.shotTime = true) ∧
    (∃ t, exec .pidCycle s0 = .next t ∧ t.err.illegalCmd = true) ∧
    (∃ t, exec .pidCycle c0 = .next t ∧ t.err.illegalCmd = false) :=
  ⟨ex1c_legal, ⟨_, rfl, rfl⟩, ⟨_, rfl, rfl⟩, ⟨_, rfl, rfl⟩, ⟨_, rfl, rfl⟩, ⟨_, rfl, rfl⟩⟩

theorem witness_NoStepChangesAParameter :
    ∃ s t : State, step s = .next t ∧ s.feed = [.command (encode .wcEnable) (all 93)] :=
  ⟨{ s0 with feed := [.command (encode .wcEnable) (all 93)] }, _, rfl, rfl⟩

/-- Two states that differ in an error flag, a telemetry register, the last on time and the feed. -/
theorem witness_UnreadStateHasNoInfluence :
    ∃ s s' t : State, Instr.wcEnable ≠ .qStatus ∧ AgreeButUnread s s' ∧
      exec .wcEnable s = .next t ∧ s.err ≠ s'.err ∧ s.pump.lastOn ≠ s'.pump.lastOn ∧
      s.tele.seq ≠ s'.tele.seq ∧ s.feed ≠ s'.feed ∧
      exec .tickMs { s with now := 0xFFFFFFFFFFFFFFFF#64 } = .refused .clockAtEnd :=
  ⟨s0, { s0 with
      err := ⟨true, true, true, true⟩, tele := { s0.tele with seq := 4 }, feed := [.reset]
      pump := { s0.pump with lastOn := 9 } }, _, by decide, rfl, rfl, by decide, by decide, by decide,
    by decide, rfl⟩

/-- A step that is a query, one that is another command, and one without a strobe. -/
theorem witness_ResponsesAnswerQueriesOnly :
    (∃ t, step { s0 with feed := [.command (encode .qPidP) (all 93)] } = .next t ∧ t.rsp.isSome = true) ∧
    (∃ t, step { s0 with feed := [.command (encode .wcEnable) (all 93)] } = .next t ∧ t.rsp = none) ∧
    (∃ t, step s0 = .next t ∧ t.rsp = none) :=
  ⟨⟨_, rfl, rfl⟩, ⟨_, rfl, rfl⟩, ⟨_, rfl, rfl⟩⟩

/-- A tick into the sample period with the controller enabled, one millisecond before it, and with the
controller disabled; and a command that is neither a tick nor a cycle. -/
theorem witness_TelemetryComesFromPidCyclesOnly :
    ∃ s t u v w : State, s = { pidState 93 93 0 .l0 (all 93) with now := 499 } ∧
      exec .tickMs s = .next t ∧ (s.pid.en = true ∧ (s.now.toNat + 1) % s.cfg.samplePeriodMs = 0) ∧
      exec .tickMs { s with now := 498 } = .next u ∧
      ¬((499 : Nat) % s.cfg.samplePeriodMs = 0) ∧
      exec .tickMs { c0 with now := 499 } = .next v ∧ c0.pid.en = false ∧
      Instr.wcEnable ≠ .pidCycle ∧ Instr.wcEnable ≠ .tickMs ∧ exec .wcEnable s = .next w :=
  ⟨_, _, _, _, _, rfl, rfl, by decide, rfl, by decide, rfl, rfl, by decide, by decide, rfl⟩

theorem witness_DisabledMachineOnlyCountsTime :
    c0.now.toNat + 1 < 2 ^ 64 ∧ (∀ x, unitBits x c0 = ⟨false, false⟩) ∧ c0.pid.en = false ∧
    c0.shot.timer.armed = false ∧ c0.pre.timer.armed = false :=
  ⟨by decide, fun x => by cases x <;> rfl, rfl, rfl, rfl⟩

end Sys2Proof.Tests
end

section
/-! PROOFS. The register invariants and the error flags (spec/10_state.md). Each operation keeps `RegInv`,
or keeps it under the condition its callers meet, one lemma per operation; a command keeps it by the
composition of the lemmas of the operations it is written with. Within a timer fire the invariants do not
hold (the timer is disarmed before the stage is left), so a fire is taken whole, by its equation in
Laws/Ops.lean. -/

namespace Sys2Proof.Machine

/-! ### Reset -/

/-- The register invariants hold of the reset values (10_state.md R36). -/
theorem RegInv.resetWith {c : Cfg} (hc : c.Legal) : RegInv (State.resetWith c) where
  legal := hc
  pumpGate _ := rfl
  heaterGate _ := rfl
  valveGate _ := rfl
  targetLow := le_rfl
  targetHigh := hc.tempRange
  u1Low := le_rfl
  u1High := by norm_num [State.resetWith]
  shotStage := by simp [State.resetWith]
  shotTimer := by simp [State.resetWith, Timer.atReset]
  preTimer := by simp [State.resetWith, Timer.atReset]
  rampOrder := le_rfl
  rampTop := Nat.zero_le _
  curBound := Nat.zero_le _
  fillBound := Nat.zero_le _
  rampBound := Nat.zero_le _
  pauseBound := Nat.zero_le _
  preBounds hp := absurd rfl hp
  startPast := le_rfl
  stopPast := le_rfl
  overridePast := le_rfl
  timesOrdered _ := le_rfl
  fullStamped := nofun

/-- After reset no sequencer runs, so the arbitration invariant holds whatever the parameters. -/
theorem OneSequencer.resetWith (c : Cfg) : OneSequencer (State.resetWith c) where
  shotMode := nofun
  preheatMode hp := absurd rfl hp

theorem resetWith_unitBits (c : Cfg) (x : PoUnit) :
    Spec.unitBits x (State.resetWith c) = ⟨false, false⟩ := by
  cases x <;> rfl

section Operations
variable {s : State}

/-! ### Flags and ports -/

theorem RegInv.raise (h : RegInv s) (e : ErrFlag) : RegInv (raise e s) := { h with }

theorem RegInv.illegalWord (h : RegInv s) : RegInv (illegalWord s) := h.raise .illegalCmd

theorem RegInv.componentOp (h : RegInv s) {t : State} (ht : RegInv t) : RegInv (componentOp s t) := by
  rcases componentOp_cases s t with ⟨-, e⟩ | ⟨-, e⟩ <;> rw [e]
  · exact ht
  · exact h.illegalWord

theorem RegInv.respond (h : RegInv s) (r : Response) : RegInv (respond r s) := { h with }

theorem RegInv.accept (h : RegInv s) (x : Sensors) (rest : List PortEvent) :
    RegInv (accept x rest s) := { h with }

theorem RegInv.idle (h : RegInv s) : RegInv (idle s) := { h with }

theorem RegInv.resetInput (h : RegInv s) (rest : List PortEvent) : RegInv (resetInput rest s) :=
  { RegInv.resetWith h.legal with }

/-! ### PhaseOutput and the setters -/

/-- A disabled unit is off (10_state.md R23), said of the unit a number names. -/
theorem RegInv.unitGate (h : RegInv s) (x : PoUnit) :
    (getPo x s).en = false → (getPo x s).out = false := by
  cases x
  · exact h.pumpGate
  · exact h.heaterGate
  · exact h.valveGate

/-- A unit may take any two bits of which a disabled one is off. -/
theorem RegInv.setPo (h : RegInv s) (x : PoUnit) {p : PhaseOutput} (hp : p.en = false → p.out = false) :
    RegInv (setPo x p s) := by
  cases x
  · exact { h with pumpGate := hp }
  · exact { h with heaterGate := hp }
  · exact { h with valveGate := hp }

theorem RegInv.poEnable (h : RegInv s) (x : PoUnit) : RegInv (poEnable x s) := h.setPo x nofun

theorem RegInv.poDisable (h : RegInv s) (x : PoUnit) : RegInv (poDisable x s) := h.setPo x fun _ => rfl

theorem RegInv.poOn (h : RegInv s) (x : PoUnit) : RegInv (poOn x s) := by
  rw [poOn_eq]
  refine h.setPo x fun he => ?_
  have hoff : (getPo x s).en = false := he
  simp [hoff, h.unitGate x hoff]

theorem RegInv.poOff (h : RegInv s) (x : PoUnit) : RegInv (poOff x s) := h.setPo x fun _ => rfl

theorem RegInv.onUnit (h : RegInv s) (unit : BitVec 8) {f : PoUnit → State → State}
    (hf : ∀ x, RegInv (f x s)) : RegInv (onUnit unit f s) := by
  unfold Machine.onUnit
  split
  · exact hf _
  · exact h.illegalWord

theorem RegInv.valveSet (h : RegInv s) (v : Bool) : RegInv (valveSet v s) := by
  cases v
  · exact h.poOff .valve
  · exact h.poOn .valve

theorem RegInv.enableUnits (h : RegInv s) : RegInv (enableUnits s) :=
  ((h.poEnable .pump).poEnable .heater).poEnable .valve

theorem RegInv.disableUnits (h : RegInv s) : RegInv (disableUnits s) :=
  ((h.poDisable .pump).poDisable .heater).poDisable .valve

theorem RegInv.pumpSetLevel (h : RegInv s) (p : Percent) : RegInv (pumpSetLevel p s) := { h with }

theorem RegInv.heaterSetDuty (h : RegInv s) (d : Nat) : RegInv (heaterSetDuty d s) := by
  rcases le_or_gt d 100 with hd | hd
  · rw [heaterSetDuty_of_le hd]; exact { h with }
  · rw [heaterSetDuty_of_gt hd]; exact { h with }

/-! ### The PWM ticks -/

theorem RegInv.heaterTick (h : RegInv s) : RegInv (heaterTick s) :=
  { h with
    heaterGate := fun he => by
      have hoff : s.heater.po.en = false := he
      simp [hoff] }

theorem RegInv.pumpTick (h : RegInv s) : RegInv (pumpTick s) := by
  cases he : s.pump.po.en
  · rw [pumpTick_of_disabled he]; exact { h with pumpGate := fun _ => rfl }
  · rw [pumpTick_of_enabled he]; exact { h with pumpGate := nofun }

theorem RegInv.runTicks (h : RegInv s) : RegInv (runTicks s) := by
  have hh : RegInv (runHeaterTick s) := by
    unfold runHeaterTick
    split
    · exact h.heaterTick
    · exact h
  unfold Machine.runTicks
  rw [runPumpTick_eq]
  split
  · exact hh.pumpTick
  · exact hh

/-! ### The controller -/

theorem RegInv.pidStart (h : RegInv s) : RegInv (pidStart s) := by
  rw [pidStart_eq]
  exact { h with u1Low := le_rfl, u1High := by norm_num }

theorem RegInv.pidStop (h : RegInv s) : RegInv (pidStop s) := by
  rw [pidStop_eq]
  exact { h with }

theorem RegInv.pidSetTarget (h : RegInv s) (x : Rat) (m : PidMode) : RegInv (pidSetTarget x m s) :=
  { h with
    targetLow := (legalTarget_range h.legal x).1
    targetHigh := (legalTarget_range h.legal x).2 }

theorem RegInv.brewTarget (h : RegInv s) : RegInv (brewTarget s) := h.pidSetTarget _ _

theorem RegInv.pidOverride (h : RegInv s) (v : Rat) (n : BitVec 32) : RegInv (pidOverride v n s) :=
  { h with }

/-- A cycle leaves the clamped output as the previous output (43_pid.md R159, R160). -/
theorem RegInv.pidCycle (h : RegInv s) : RegInv (pidCycle s) := by
  cases he : s.pid.en
  · rw [pidCycle_of_disabled he]; exact h
  · rw [pidCycle_of_enabled he, pidCycleAt_eq h.legal]
    exact { h with u1Low := (pidClamp_range _).1, u1High := (pidClamp_range _).2 }

theorem RegInv.runPidPeriod (h : RegInv s) : RegInv (runPidPeriod s) := by
  unfold Machine.runPidPeriod
  split
  · exact h.pidCycle
  · exact h

/-! ### The Shot sequencer -/

/-- Storing arguments that meet the bounds of 44_shot.md R176. -/
theorem RegInv.shotLoad (h : RegInv s) {f r z : Millis} {a b : Percent}
    (hl : shotArgsLegal f r z a b = true) : RegInv (shotLoad f r z a b s) := by
  obtain ⟨-, hf, hr, hz, hab, hb⟩ := shotArgsLegal_iff.1 hl
  exact { h with
    rampOrder := hab, rampTop := hb, fillBound := hf, rampBound := hr, pauseBound := hz }

/-- A shot that becomes active has its timer armed and no start stamp yet (44_shot.md R176). -/
theorem RegInv.shotActivate_shotArm (h : RegInv s) (delta : Int) :
    RegInv (shotActivate (shotArm delta s)) := by
  rw [shotArm, shotArmAt_eq]
  exact { h with
    shotStage := iff_of_true rfl nofun
    shotTimer := iff_of_true rfl (.inl rfl)
    startPast := Nat.zero_le _
    timesOrdered := fun _ => Nat.zero_le _
    fullStamped := nofun }

theorem RegInv.shotStart (h : RegInv s) (f r z : Millis) (a b : Percent) :
    RegInv (shotStart f r z a b s) := by
  rcases shotStart_cases f r z a b s with ⟨-, e⟩ | ⟨-, hl, e⟩ | ⟨-, -, e⟩ <;> rw [e]
  · exact h
  · exact (((h.shotLoad hl).valveSet true).pumpSetLevel 100#8).shotActivate_shotArm f.toNat
  · exact h.raise .cfgReject

/-- Marking the shot stopped now, its timer disarmed (44_shot.md R183): a start stamp lies in the past, so
the two stamps are in order. -/
theorem RegInv.shotDeactivate_shotDisarm (h : RegInv s) : RegInv (shotDeactivate (shotDisarm s)) :=
  { h with
    shotStage := iff_of_false nofun (absurd rfl)
    shotTimer := iff_of_false nofun (by simp [shotDeactivate])
    stopPast := le_rfl
    timesOrdered := fun _ => h.startPast
    fullStamped := nofun }

theorem RegInv.shotStop (h : RegInv s) (p : Percent) (v : Bool) : RegInv (shotStop p v s) := by
  unfold Machine.shotStop
  split
  · exact (h.shotDeactivate_shotDisarm.pumpSetLevel p).valveSet v
  · exact h

/-- The first ramp percent is at most 110: the start percent is at most 100 and the offset at most 10. -/
theorem RegInv.shotFireInitFill (h : RegInv s) (ha : s.shot.active = true) :
    RegInv (shotFireInitFill (shotDisarm s)) := by
  obtain ⟨c, d, k, e, hc⟩ := shotFireInitFill_eq (shotDisarm s)
  have hpct : s.shot.startPct.toNat + s.cfg.rampFirstOffset ≤ 110 := by
    have := h.rampOrder
    have := h.rampTop
    have := h.legal.rampOffset
    omega
  have hcur : c.toNat = s.shot.startPct.toNat + s.cfg.rampFirstOffset :=
    (hc (hpct.trans_lt (by decide))).1
  rw [e]
  exact { h with
    shotStage := iff_of_true ha nofun
    shotTimer := iff_of_true rfl (.inr (.inl rfl))
    curBound := hcur.trans_le hpct
    fullStamped := nofun }

/-- A ramp step writes no register of the controller but the pending override (44_shot.md R179). -/
theorem shotStepOverride_pid (s : State) :
    (shotStepOverride s).pid.target = s.pid.target ∧ (shotStepOverride s).pid.u1 = s.pid.u1 := by
  unfold shotStepOverride
  split <;> exact ⟨rfl, rfl⟩

/-- A ramp step adds 10 to a percent below 100. -/
theorem RegInv.shotRampStep (h : RegInv s) (ha : s.shot.active = true) (hg : s.shot.stage = .ramp)
    (hlt : s.shot.curPct.toNat < 100) : RegInv (shotRampStep (shotDisarm s)) := by
  obtain ⟨c, d, k, e, hc⟩ := shotRampStep_eq (shotDisarm s)
  have hcur : c.toNat = s.shot.curPct.toNat + 10 :=
    (hc ((Nat.add_lt_add_right hlt 10).trans (by decide))).1
  obtain ⟨htarget, hu1⟩ := shotStepOverride_pid (shotDisarm s)
  rw [e]
  exact { h with
    targetLow := h.targetLow.trans_eq htarget.symm
    targetHigh := htarget.trans_lt h.targetHigh
    u1Low := h.u1Low.trans_eq hu1.symm
    u1High := hu1.trans_le h.u1High
    shotStage := iff_of_true ha (by simp [hg])
    shotTimer := iff_of_true rfl (.inr (.inl hg))
    curBound := hcur.trans_le (by omega) }

/-- The stamp of a shot that begins to flow is not the sentinel 0, for the clock has left 0. -/
theorem RegInv.shotEnterFull (h : RegInv s) (ha : s.shot.active = true) (hn : 0 < s.now.toNat) :
    RegInv (shotEnterFull (shotDisarm s)) := by
  rw [shotEnterFull_eq]
  exact { h with
    shotStage := iff_of_true ha nofun
    shotTimer := iff_of_false nofun (by simp)
    startPast := le_rfl
    stopPast := Nat.zero_le _
    timesOrdered := absurd rfl
    fullStamped := fun _ h0 => by
      have : s.now = 0 := h0
      simp [this] at hn }

theorem RegInv.shotAfterRamp (h : RegInv s) (ha : s.shot.active = true) (hn : 0 < s.now.toNat) :
    RegInv (shotAfterRamp (shotDisarm s)) := by
  rcases shotAfterRamp_cases (shotDisarm s) with ⟨-, e⟩ | ⟨-, e⟩ <;> rw [e]
  · exact { h with
      shotStage := iff_of_true ha nofun
      shotTimer := iff_of_true rfl (.inr (.inr rfl))
      fullStamped := nofun }
  · exact h.shotEnterFull ha hn

theorem RegInv.shotFireRamp (h : RegInv s) (ha : s.shot.active = true) (hg : s.shot.stage = .ramp)
    (hn : 0 < s.now.toNat) : RegInv (shotFireRamp (shotDisarm s)) := by
  unfold Machine.shotFireRamp
  split
  · exact h.shotAfterRamp ha hn
  · rename_i hcur
    exact h.shotRampStep ha hg (not_le.1 fun hge => hcur (.inr hge))

/-- A fire of a due Shot timer, after the first millisecond. -/
theorem RegInv.shotTimerFire (h : RegInv s) (hd : shotDue s = true) (hn : 0 < s.now.toNat) :
    RegInv (shotTimerFire s) := by
  obtain ⟨ha, hg⟩ := h.shot_of_due hd
  rcases shotTimerFire_cases s with
    ⟨hoff, -⟩ | ⟨-, -, e⟩ | ⟨-, hramp, e⟩ | ⟨-, -, e⟩ | ⟨-, hquiet, -⟩
  · exact absurd ha (by simp [hoff])
  · rw [e]; exact h.shotFireInitFill ha
  · rw [e]; exact h.shotFireRamp ha hramp hn
  · rw [e]; exact h.shotEnterFull ha hn
  · rcases hquiet with hq | hq <;> simp [hq] at hg

/-! ### The Preheat sequencer -/

/-- Entering a stage other than OFF: the valve on only if enabled, the pump at a level, the timer armed,
and the stored durations within the bounds of 45_preheat.md R200. -/
theorem RegInv.preheatEntered (h : RegInv s) (g : PreStage) (hg : g ≠ .off)
    (hl : preArgsLegal s.pre.pumpMs s.pre.stopPumpMs s.pre.pauseMs = true) {out : Bool}
    (hv : s.valve.en = false → out = false) (level : PumpLevel) (d : Time) (k : Nat) :
    RegInv { s with
      valve := ⟨s.valve.en, out⟩
      pump := { s.pump with level := level }
      pre := { s.pre with stage := g, timer := ⟨true, d⟩ }
      freeIdx := k } :=
  { h with
    valveGate := hv
    preTimer := iff_of_true rfl hg
    preBounds := fun _ => preArgsLegal_iff.1 hl }

/-- The valve as an opening request leaves it: a disabled one stays closed. -/
theorem RegInv.openedGate (h : RegInv s) :
    s.valve.en = false → (s.valve.en || s.valve.out) = false := fun he => by
  simp [he, h.valveGate he]

theorem RegInv.preheatTimerFire (h : RegInv s) (hd : preDue s = true) :
    RegInv (preheatTimerFire s) := by
  have hoff := h.preheat_of_due hd
  have hl := preArgsLegal_iff.2 (h.preBounds hoff)
  rcases preheatTimerFire_cases s with ⟨-, e⟩ | ⟨-, e⟩ | ⟨-, e⟩ | ⟨hg, -⟩
  · rw [e, preFirePumpOn_eq]; exact h.preheatEntered .hold nofun hl (fun _ => rfl) _ _ _
  · rw [e, preFireHold_eq]; exact h.preheatEntered .pause nofun hl (fun _ => rfl) _ _ _
  · rw [e, preheatEnterPumpOn_eq]; exact h.preheatEntered .pumpOn nofun hl h.openedGate _ _ _
  · exact absurd hg hoff

theorem RegInv.preheatStart (h : RegInv s) (a b c : Millis) : RegInv (preheatStart a b c s) := by
  rcases preheatStart_cases a b c s with ⟨-, e⟩ | ⟨hoff, hl, e⟩ | ⟨-, -, e⟩ <;> rw [e]
  · exact h
  · have hload : RegInv (preLoad a b c s) := { h with preBounds := absurd hoff }
    rw [preheatEnterPumpOn_eq]
    exact hload.preheatEntered .pumpOn nofun hl hload.openedGate _ _ _
  · exact h.raise .cfgReject

theorem RegInv.preheatStop (h : RegInv s) (p : Percent) (v : Bool) : RegInv (preheatStop p v s) := by
  have hoff : RegInv (preEnter .off (preDisarm s)) :=
    { h with preTimer := iff_of_false nofun (absurd rfl), preBounds := absurd rfl }
  exact (hoff.pumpSetLevel p).valveSet v

/-! ### WaterControl -/

theorem RegInv.expireOverride (h : RegInv s) : RegInv (expireOverride s) := by
  unfold Machine.expireOverride
  split
  · exact h
  · exact { h with overridePast := Nat.zero_le _ }

theorem RegInv.setWcMode (h : RegInv s) (m : WcMode) : RegInv (setWcMode m s) := { h with }

theorem RegInv.wcStop (h : RegInv s) (p : Percent) (v : Bool) (m : WcMode) : RegInv (wcStop p v m s) :=
  let q := effectivePercent p s
  ((((h.expireOverride.shotStop q v).preheatStop q v).pumpSetLevel q).valveSet v).setWcMode m

theorem RegInv.flowKeepStop (h : RegInv s) (m : WcMode) : RegInv (flowKeepStop m s) := h.wcStop _ _ m

/-- A pump override is stamped with the time it is set at (46_watercontrol.md R224). -/
theorem RegInv.overridePump (h : RegInv s) (p : Percent) (durationMs : Millis) :
    RegInv { s with wc := { s.wc with
      ovrActive := true, ovrPercent := p, ovrTotalMs := durationMs, ovrActiveMs := s.now } } :=
  { h with overridePast := le_rfl }

/-! ### The time base -/

/-- Stamps in the past stay there. -/
theorem RegInv.advanceClock (h : RegInv s) (hroom : s.now.toNat + 1 < 2 ^ 64) :
    RegInv (advanceClock s) := by
  have hle : s.now.toNat ≤ (Machine.advanceClock s).now.toNat := by
    rw [advanceClock_now hroom]
    exact Nat.le_succ _
  exact { h with
    startPast := h.startPast.trans hle
    stopPast := h.stopPast.trans hle
    overridePast := h.overridePast.trans hle }

/-- The loop of 47_time_and_queries.md R242 keeps the invariants from the first millisecond on: no fire
moves the clock. -/
theorem RegInv.runDueTimers (h : RegInv s) (hn : 0 < s.now.toNat) {n : Nat} {t : State}
    (ht : runDueTimers n s = some t) : RegInv t := by
  have keeps := runDueTimers_induct (P := fun u => RegInv u ∧ 0 < u.now.toNat)
    (fun u hu hd => ⟨hu.1.shotTimerFire hd hu.2, by simpa using hu.2⟩)
    (fun u hu _ hd => ⟨hu.1.preheatTimerFire hd, by simpa using hu.2⟩)
  exact (keeps n s t ht ⟨h, hn⟩).1

theorem RegInv.tickMs (h : RegInv s) {t : State} (ht : execTickMs s = .next t) : RegInv t := by
  obtain ⟨hend, u, hu, rfl⟩ := execTickMs_next ht
  have hroom : s.now.toNat + 1 < 2 ^ 64 := by have := s.now.isLt; omega
  have hn : 0 < (Machine.runTicks (Machine.advanceClock s)).now.toNat := by
    simp [advanceClock_now hroom]
  exact ((h.advanceClock hroom).runTicks.runDueTimers hn hu).runPidPeriod

/-! ### Queries -/

theorem RegInv.getShotTime (h : RegInv s) : RegInv (getShotTime s).1 := by
  unfold Machine.getShotTime
  repeat' split
  · exact h
  · unfold spend
    split
    · exact h
    · exact { h with }
  · exact h.raise .shotTime
  · exact h

end Operations

/-! ### Commands and steps -/

/-- What an outcome answers as the next state, if it answers one, satisfies `P`. -/
def NextSatisfies (P : State → Prop) (o : Host.Outcome State Fault Refusal) : Prop :=
  ∀ t, o = .next t → P t

theorem nextSatisfies_next {P : State → Prop} {t : State} (h : P t) : NextSatisfies P (.next t) := by
  rintro _ ⟨⟩
  exact h

/-- Every command keeps the register invariants. -/
theorem RegInv.exec {s : State} (h : RegInv s) (i : Instr) : NextSatisfies RegInv (exec i s) := by
  have next {t : State} (ht : RegInv t) := nextSatisfies_next ht
  have component {t : State} (ht : RegInv t) := next (h.componentOp ht)
  cases i with
  | nop => exact next h
  | wcEnable => exact next (h.wcStop _ _ _).brewTarget.pidStart.enableUnits
  | wcDisable => exact next (h.wcStop _ _ _).pidStop.disableUnits
  | wcStartPump percent valve => exact next (h.wcStop _ _ _).brewTarget
  | wcStartShot =>
    refine next ?_
    split
    · exact h
    · exact (h.flowKeepStop _).brewTarget.shotStart _ _ _ _ _
  | wcStartPreheat =>
    refine next ?_
    split
    · exact h
    · exact (h.flowKeepStop _).brewTarget.preheatStart _ _ _
  | wcStartSteam percent valve =>
    refine next ?_
    split
    · exact h
    · exact (((h.flowKeepStop _).pumpSetLevel _).valveSet _).pidSetTarget _ _
  | wcOverridePump percent durationMs => exact next ((h.overridePump _ _).pumpSetLevel _)
  | wcStop percent valve mode =>
    refine next ?_
    split
    · exact h.wcStop _ _ _
    · exact h.illegalWord
  | qShotTime => exact next (h.getShotTime.respond _)
  | qPidP => exact next (h.respond _)
  | qPidI => exact next (h.respond _)
  | qPidD => exact next (h.respond _)
  | qPidU => exact next (h.respond _)
  | qPumpDuty => exact next (h.respond _)
  | qStatus => exact next (h.respond _)
  | tickMs => exact fun _ ht => h.tickMs ht
  | poEnable unit => exact component (h.onUnit _ h.poEnable)
  | poDisable unit => exact component (h.onUnit _ h.poDisable)
  | poOn unit => exact component (h.onUnit _ h.poOn)
  | poOff unit => exact component (h.onUnit _ h.poOff)
  | pumpSetLevel percent => exact component (h.pumpSetLevel _)
  | pumpTick => exact component h.pumpTick
  | heaterSetDuty percent => exact component (h.heaterSetDuty _)
  | heaterTick => exact component h.heaterTick
  | pidStart => exact component h.pidStart
  | pidStop => exact component h.pidStop
  | pidSetTarget temp steam => exact component (h.pidSetTarget _ _)
  | pidOverride value cycles => exact component (h.pidOverride _ _)
  | pidCycle => exact component h.pidCycle
  | shotStart initFillMs rampMs pauseMs startPct stopPct => exact component (h.shotStart _ _ _ _ _)
  | shotStop percent valve => exact component (h.shotStop _ _)
  | preheatStart pumpMs stopPumpMs pauseMs => exact component (h.preheatStart _ _ _)
  | preheatStop percent valve => exact component (h.preheatStop _ _)

/-- Every step keeps the register invariants. -/
theorem RegInv.step {s : State} (h : RegInv s) : NextSatisfies RegInv (step s) := by
  rcases step_cases s with ⟨-, e⟩ | ⟨rest, -, e⟩ | ⟨w, x, rest, i, -, -, e⟩ | ⟨w, x, rest, _, -, -, e⟩ <;>
    rw [e]
  · exact nextSatisfies_next h.idle
  · exact nextSatisfies_next (h.resetInput rest)
  · exact (h.accept x rest).exec i
  · exact nextSatisfies_next (h.accept x rest).illegalWord

/-! ### Error flags

A command raises at most one flag and clears none (60_exceptions.md R260, R265). -/

/-- The flags `g` are the flags `f`, or `f` with one more set. -/
def RaisedAtMostOne (f g : Errors) : Prop := g = f ∨ ∃ e, g = setFlag e f

section Flags
variable {s : State}

/-- No flag is cleared where at most one is raised. -/
theorem RaisedAtMostOne.keeps_set {f g : Errors} (h : RaisedAtMostOne f g) {e : ErrFlag}
    (hf : getFlag e f = true) : getFlag e g = true := by
  obtain rfl | ⟨e', rfl⟩ := h
  · exact hf
  · simp [hf]

theorem illegalWord_raises (s : State) : RaisedAtMostOne s.err (illegalWord s).err :=
  .inr ⟨.illegalCmd, rfl⟩

theorem componentOp_raises {t : State} (ht : RaisedAtMostOne s.err t.err) :
    RaisedAtMostOne s.err (componentOp s t).err := by
  rcases componentOp_cases s t with ⟨-, e⟩ | ⟨-, e⟩ <;> rw [e]
  · exact ht
  · exact illegalWord_raises s

theorem onUnit_raises (unit : BitVec 8) {f : PoUnit → State → State} (hf : ∀ x, (f x s).err = s.err) :
    RaisedAtMostOne s.err (onUnit unit f s).err := by
  unfold onUnit
  split
  · exact .inl (hf _)
  · exact illegalWord_raises s

theorem heaterSetDuty_raises (d : Nat) (s : State) : RaisedAtMostOne s.err (heaterSetDuty d s).err := by
  rcases le_or_gt d 100 with hd | hd
  · rw [heaterSetDuty_of_le hd]; exact .inl rfl
  · rw [heaterSetDuty_of_gt hd]; exact .inr ⟨.heaterRange, rfl⟩

theorem pidCycle_raises (s : State) : RaisedAtMostOne s.err (pidCycle s).err := by
  cases he : s.pid.en
  · rw [pidCycle_of_disabled he]; exact .inl rfl
  · rw [pidCycle_of_enabled he]
    simpa [pidCycleAt] using heaterSetDuty_raises (pidDuty (selectPv s) s) s

theorem runPidPeriod_raises (s : State) : RaisedAtMostOne s.err (runPidPeriod s).err := by
  unfold runPidPeriod
  split
  · exact pidCycle_raises s
  · exact .inl rfl

theorem shotStart_raises (f r z : Millis) (a b : Percent) (s : State) :
    RaisedAtMostOne s.err (shotStart f r z a b s).err := by
  rcases shotStart_cases f r z a b s with ⟨-, e⟩ | ⟨-, -, e⟩ | ⟨-, -, e⟩ <;> rw [e]
  · exact .inl rfl
  · exact .inl (by simp)
  · exact .inr ⟨.cfgReject, rfl⟩

theorem preheatStart_raises (a b c : Millis) (s : State) :
    RaisedAtMostOne s.err (preheatStart a b c s).err := by
  rcases preheatStart_cases a b c s with ⟨-, e⟩ | ⟨-, -, e⟩ | ⟨-, -, e⟩ <;> rw [e]
  · exact .inl rfl
  · exact .inl (by simp)
  · exact .inr ⟨.cfgReject, rfl⟩

theorem getShotTime_raises (s : State) : RaisedAtMostOne s.err (getShotTime s).1.err := by
  unfold getShotTime
  repeat' split
  · exact .inl rfl
  · exact .inl (by simp)
  · exact .inr ⟨.shotTime, rfl⟩
  · exact .inl rfl

/-- No timer fire raises a flag. -/
theorem runDueTimers_err {n : Nat} {t : State} (ht : runDueTimers n s = some t) : t.err = s.err :=
  runDueTimers_induct (P := fun u => u.err = s.err) (fun u hu _ => by simpa using hu)
    (fun u hu _ _ => by simpa using hu) n s t ht rfl

/-- Every command raises at most one flag. -/
theorem exec_raises (i : Instr) (s : State) :
    NextSatisfies (fun t => RaisedAtMostOne s.err t.err) (exec i s) := by
  have next {t : State} (ht : RaisedAtMostOne s.err t.err) :
      NextSatisfies (fun t => RaisedAtMostOne s.err t.err) (.next t) := nextSatisfies_next ht
  have component {t : State} (ht : RaisedAtMostOne s.err t.err) := next (componentOp_raises ht)
  cases i with
  | nop => exact next (.inl rfl)
  | wcEnable => exact next (.inl (by simp [pidStart_eq]))
  | wcDisable => exact next (.inl (by simp [pidStop_eq]))
  | wcStartPump percent valve => exact next (.inl (by simp))
  | wcStartShot =>
    refine next ?_
    split
    · exact .inl rfl
    · have hstop : (brewTarget (flowKeepStop .shot s)).err = s.err := by simp
      exact hstop ▸ shotStart_raises _ _ _ _ _ (brewTarget (flowKeepStop .shot s))
  | wcStartPreheat =>
    refine next ?_
    split
    · exact .inl rfl
    · have hstop : (brewTarget (flowKeepStop .preheat s)).err = s.err := by simp
      exact hstop ▸ preheatStart_raises _ _ _ (brewTarget (flowKeepStop .preheat s))
  | wcStartSteam percent valve =>
    refine next (.inl ?_)
    split <;> simp
  | wcOverridePump percent durationMs => exact next (.inl rfl)
  | wcStop percent valve mode =>
    refine next ?_
    split
    · exact .inl (by simp)
    · exact illegalWord_raises s
  | qShotTime => exact next (getShotTime_raises s)
  | qPidP => exact next (.inl rfl)
  | qPidI => exact next (.inl rfl)
  | qPidD => exact next (.inl rfl)
  | qPidU => exact next (.inl rfl)
  | qPumpDuty => exact next (.inl rfl)
  | qStatus => exact next (.inl rfl)
  | tickMs =>
    intro t ht
    obtain ⟨-, u, hu, rfl⟩ := execTickMs_next ht
    have hu : u.err = s.err := by simpa using runDueTimers_err hu
    exact hu ▸ runPidPeriod_raises u
  | poEnable unit => exact component (onUnit_raises _ fun x => by simp)
  | poDisable unit => exact component (onUnit_raises _ fun x => by simp)
  | poOn unit => exact component (onUnit_raises _ fun x => by simp)
  | poOff unit => exact component (onUnit_raises _ fun x => by simp)
  | pumpSetLevel percent => exact component (.inl rfl)
  | pumpTick => exact component (.inl (by simp))
  | heaterSetDuty percent => exact component (heaterSetDuty_raises _ s)
  | heaterTick => exact component (.inl rfl)
  | pidStart => exact component (.inl (by simp [pidStart_eq]))
  | pidStop => exact component (.inl (by simp [pidStop_eq]))
  | pidSetTarget temp steam => exact component (.inl rfl)
  | pidOverride value cycles => exact component (.inl rfl)
  | pidCycle => exact component (pidCycle_raises s)
  | shotStart initFillMs rampMs pauseMs startPct stopPct => exact component (shotStart_raises _ _ _ _ _ s)
  | shotStop percent valve => exact component (.inl (by simp))
  | preheatStart pumpMs stopPumpMs pauseMs => exact component (preheatStart_raises _ _ _ s)
  | preheatStop percent valve => exact component (.inl (by simp))

/-- Every step but the reset input raises at most one flag. -/
theorem step_raises (hr : s.feed.head? ≠ some .reset) :
    NextSatisfies (fun t => RaisedAtMostOne s.err t.err) (step s) := by
  rcases step_cases s with ⟨-, e⟩ | ⟨rest, hf, -⟩ | ⟨w, x, rest, i, -, -, e⟩ | ⟨w, x, rest, _, -, -, e⟩
  · rw [e]; exact nextSatisfies_next (.inl rfl)
  · exact absurd (by simp [hf]) hr
  · rw [e]; exact exec_raises i (accept x rest s)
  · rw [e]; exact nextSatisfies_next (illegalWord_raises (accept x rest s))

end Flags

/-! ### The obligations -/

/-- Settles O51: the cases of a step, and every command keeps the invariants. -/
theorem stepKeepsTheRegisterInvariants : Obligations.StepKeepsTheRegisterInvariants :=
  fun _ t h ht => h.step t ht

/-- Settles O54: a step that raises at most one flag clears none. -/
theorem errorFlagsAreSticky : Obligations.ErrorFlagsAreSticky :=
  fun _ t _ hr ht => (step_raises hr t ht).keeps_set

/-- Settles O1, register by register. -/
theorem resetGivesEveryRegisterItsTableValue : Obligations.ResetGivesEveryRegisterItsTableValue := by
  rintro c _ rfl
  exact ⟨rfl, rfl, resetWith_unitBits c, by simp [State.resetWith, Timer.atReset, levelPercent]⟩

/-- Settles O52: the parameters of `State.reset` are legal too. -/
theorem resetMeetsTheInvariants : Obligations.ResetMeetsTheInvariants :=
  ⟨fun c hc => ⟨.resetWith hc, .resetWith c⟩, .resetWith Config.cfg_legal, .resetWith Config.cfg⟩

end Sys2Proof.Machine
end

section
/-! PROOFS. The parameters and the telemetry registers (spec/20_memory.md R64, R71). No operation writes a
parameter, and of the commands only `PID_CYCLE` and `TICK_MS` run the cycle that publishes, so one case split
over the other commands says both. A tick publishes by its PID period alone: the events before it leave the
telemetry registers, the enable bit of the controller and the sample period as they were. -/

namespace Sys2Proof.Machine

/-- The parameters and the telemetry registers of `t` are those of `s`. -/
def KeepsCfgTele (s t : State) : Prop := t.cfg = s.cfg ∧ t.tele = s.tele

@[simp] theorem keepsCfgTele_iff (s t : State) :
    KeepsCfgTele s t ↔ t.cfg = s.cfg ∧ t.tele = s.tele := .rfl

section Operations
variable {s : State}

/-! ### Operations with more than one outcome -/

theorem componentOp_keepsCfgTele {t : State} (ht : KeepsCfgTele s t) :
    KeepsCfgTele s (componentOp s t) := by
  rcases componentOp_cases s t with ⟨-, e⟩ | ⟨-, e⟩ <;> rw [e]
  · exact ht
  · simp

theorem onUnit_keepsCfgTele (unit : BitVec 8) {f : PoUnit → State → State}
    (hf : ∀ x, KeepsCfgTele s (f x s)) : KeepsCfgTele s (onUnit unit f s) := by
  unfold onUnit
  split
  · exact hf _
  · simp

theorem getShotTime_keepsCfgTele (s : State) : KeepsCfgTele s (getShotTime s).1 := by
  unfold getShotTime
  repeat' split
  all_goals simp

/-! ### The commands that run no PID cycle -/

/-- A command other than `PID_CYCLE` and `TICK_MS` leaves the parameters and the telemetry registers
alone. -/
theorem exec_keepsCfgTele {i : Instr} (hcycle : i ≠ .pidCycle) (htick : i ≠ .tickMs) (s : State) :
    NextSatisfies (KeepsCfgTele s) (exec i s) := by
  have next {t : State} (ht : KeepsCfgTele s t) : NextSatisfies (KeepsCfgTele s) (.next t) :=
    nextSatisfies_next ht
  have component {t : State} (ht : KeepsCfgTele s t) := next (componentOp_keepsCfgTele ht)
  cases i with
  | pidCycle => exact absurd rfl hcycle
  | tickMs => exact absurd rfl htick
  | nop => exact next ⟨rfl, rfl⟩
  | wcEnable => exact next (by simp)
  | wcDisable => exact next (by simp)
  | wcStartPump percent valve => exact next (by simp)
  | wcStartShot => refine next ?_; split <;> simp
  | wcStartPreheat => refine next ?_; split <;> simp
  | wcStartSteam percent valve => refine next ?_; split <;> simp
  | wcOverridePump percent durationMs => exact next ⟨rfl, rfl⟩
  | wcStop percent valve mode => refine next ?_; split <;> simp
  | qShotTime => exact next (getShotTime_keepsCfgTele s)
  | qPidP => exact next ⟨rfl, rfl⟩
  | qPidI => exact next ⟨rfl, rfl⟩
  | qPidD => exact next ⟨rfl, rfl⟩
  | qPidU => exact next ⟨rfl, rfl⟩
  | qPumpDuty => exact next ⟨rfl, rfl⟩
  | qStatus => exact next ⟨rfl, rfl⟩
  | poEnable unit => exact component (onUnit_keepsCfgTele _ fun x => by simp)
  | poDisable unit => exact component (onUnit_keepsCfgTele _ fun x => by simp)
  | poOn unit => exact component (onUnit_keepsCfgTele _ fun x => by simp)
  | poOff unit => exact component (onUnit_keepsCfgTele _ fun x => by simp)
  | pumpSetLevel percent => exact component ⟨rfl, rfl⟩
  | pumpTick => exact component (by simp)
  | heaterSetDuty percent => exact component (by simp)
  | heaterTick => exact component ⟨rfl, rfl⟩
  | pidStart => exact component (by simp)
  | pidStop => exact component (by simp)
  | pidSetTarget temp steam => exact component ⟨rfl, rfl⟩
  | pidOverride value cycles => exact component ⟨rfl, rfl⟩
  | shotStart initFillMs rampMs pauseMs startPct stopPct => exact component (by simp)
  | shotStop percent valve => exact component (by simp)
  | preheatStart pumpMs stopPumpMs pauseMs => exact component (by simp)
  | preheatStop percent valve => exact component (by simp)

/-! ### A millisecond up to its PID period -/

@[simp] theorem shotStepOverride_pid_en (s : State) : (shotStepOverride s).pid.en = s.pid.en := by
  unfold shotStepOverride
  split <;> rfl

@[simp] theorem shotEnterFull_pid_en (s : State) : (shotEnterFull s).pid.en = s.pid.en := by
  rw [shotEnterFull_eq]

theorem shotFireRamp_pid_en (s : State) : (shotFireRamp s).pid.en = s.pid.en := by
  unfold shotFireRamp
  split
  · rcases shotAfterRamp_cases s with ⟨-, e⟩ | ⟨-, e⟩ <;> simp [e]
  · obtain ⟨c, d, k, e, -⟩ := shotRampStep_eq s
    simp [e]

/-- A fire of the Shot timer writes the override of the controller at most (44_shot.md R179, R182), so it
neither enables nor disables it. -/
@[simp] theorem shotTimerFire_pid_en (s : State) : (shotTimerFire s).pid.en = s.pid.en := by
  rcases shotTimerFire_cases s with
    ⟨-, e⟩ | ⟨-, -, e⟩ | ⟨-, -, e⟩ | ⟨-, -, e⟩ | ⟨-, -, e⟩ <;> rw [e]
  · simp
  · simp
  · simp [shotFireRamp_pid_en]
  · simp
  · simp

/-- The loop of 47_time_and_queries.md R242 leaves alone what decides whether the PID period publishes, and
the telemetry registers. -/
theorem runDueTimers_keeps {n : Nat} {u : State} (hu : runDueTimers n s = some u) :
    u.cfg = s.cfg ∧ u.now = s.now ∧ u.pid.en = s.pid.en ∧ u.tele = s.tele :=
  runDueTimers_induct
    (P := fun v => v.cfg = s.cfg ∧ v.now = s.now ∧ v.pid.en = s.pid.en ∧ v.tele = s.tele)
    (fun v hv _ => by simpa using hv) (fun v hv _ _ => by simpa using hv) n s u hu ⟨rfl, rfl, rfl, rfl⟩

/-- A `TICK_MS` that answers a next state is a PID period, at the advanced clock, of a state with the
parameters, the enable bit of the controller and the telemetry registers of before. -/
theorem execTickMs_period {t : State} (ht : execTickMs s = .next t) :
    ∃ u, t = runPidPeriod u ∧ u.cfg = s.cfg ∧ u.now.toNat = s.now.toNat + 1 ∧
      u.pid.en = s.pid.en ∧ u.tele = s.tele := by
  obtain ⟨hend, u, hu, rfl⟩ := execTickMs_next ht
  have hroom : s.now.toNat + 1 < 2 ^ 64 := by have := s.now.isLt; omega
  obtain ⟨hcfg, hnow, hen, htele⟩ := runDueTimers_keeps hu
  exact ⟨u, rfl, by simpa using hcfg, by simp [hnow, advanceClock_now hroom], by simpa using hen,
    by simpa using htele⟩

/-! ### The PID period -/

/-- One publication was counted from `s` to `t`, and the tuple is of registers as `t` has them. -/
def PublishedOnce (s t : State) : Prop :=
  t.tele = ⟨t.pid.p, t.pid.i, t.pid.d, t.pid.u, t.heater.duty, t.pump.level, s.tele.seq + 1⟩

/-- An executed cycle publishes what it has just written (43_pid.md R160), whatever the duty. -/
theorem pidCycleAt_publishes (pv : Rat) (s : State) : PublishedOnce s (pidCycleAt pv s) := by
  simp [PublishedOnce, pidCycleAt, pidPublish, pidWriteBack]

theorem runPidPeriod_publishes (hen : s.pid.en = true)
    (hperiod : s.now.toNat % s.cfg.samplePeriodMs = 0) : PublishedOnce s (runPidPeriod s) := by
  rw [runPidPeriod, if_pos hperiod, pidCycle_of_enabled hen]
  exact pidCycleAt_publishes _ s

/-- Off the multiples of the sample period, and for a disabled controller, the PID period does nothing. -/
theorem runPidPeriod_of_not (h : ¬(s.pid.en = true ∧ s.now.toNat % s.cfg.samplePeriodMs = 0)) :
    runPidPeriod s = s := by
  unfold runPidPeriod
  split
  · rename_i hperiod
    exact pidCycle_of_disabled (Bool.eq_false_iff.2 fun hen => h ⟨hen, hperiod⟩)
  · rfl

/-! ### Every command and every step keeps the parameters -/

theorem componentOp_cfg {t : State} (ht : t.cfg = s.cfg) : (componentOp s t).cfg = s.cfg := by
  rcases componentOp_cases s t with ⟨-, e⟩ | ⟨-, e⟩ <;> simp [e, ht]

theorem exec_cfg (i : Instr) (s : State) : NextSatisfies (fun t => t.cfg = s.cfg) (exec i s) := by
  intro t ht
  by_cases hcycle : i = .pidCycle
  · subst hcycle
    exact nextSatisfies_next (P := fun t => t.cfg = s.cfg) (componentOp_cfg (by simp)) t ht
  by_cases htick : i = .tickMs
  · subst htick
    obtain ⟨u, rfl, hcfg, -⟩ := execTickMs_period ht
    simp [hcfg]
  · exact (exec_keepsCfgTele hcycle htick s t ht).1

theorem step_cfg (s : State) : NextSatisfies (fun t => t.cfg = s.cfg) (step s) := by
  rcases step_cases s with ⟨-, e⟩ | ⟨rest, -, e⟩ | ⟨w, x, rest, i, -, -, e⟩ | ⟨w, x, rest, _, -, -, e⟩ <;>
    rw [e]
  · exact nextSatisfies_next rfl
  · exact nextSatisfies_next rfl
  · exact exec_cfg i (accept x rest s)
  · exact nextSatisfies_next rfl

end Operations

/-! ### The obligations -/

/-- Settles O56: the cases of a step, and no command writes a parameter. -/
theorem noStepChangesAParameter : Obligations.NoStepChangesAParameter :=
  fun s t ht => step_cfg s t ht

/-- Settles O59: the commands that run no PID cycle, and a tick as the PID period of a state that agrees with
the one before on the enable bit, the sample period and the telemetry registers. -/
theorem telemetryComesFromPidCyclesOnly : Obligations.TelemetryComesFromPidCyclesOnly := by
  refine ⟨fun i s t hcycle htick ht => (exec_keepsCfgTele hcycle htick s t ht).2, fun s t ht => ?_⟩
  obtain ⟨u, rfl, hcfg, hnow, hen, htele⟩ := execTickMs_period ht
  rw [← hcfg, ← hnow, ← hen, ← htele]
  constructor
  · rintro ⟨hon, hperiod⟩
    have hpub : PublishedOnce u (runPidPeriod u) := runPidPeriod_publishes hon hperiod
    rw [PublishedOnce] at hpub
    simp [hpub]
  · exact fun h => by rw [runPidPeriod_of_not h]

end Sys2Proof.Machine
end

section
/-! PROOFS. The encoding (spec/30_encoding.md R80 to R96). Each format of R82 is described once, by the fields
its words have: its decoder accepts exactly those fields, and its mask and constraint (R96) accept exactly
those words. The opcode map, the encoder and the mask table are then compared command by command, each command
by its format. -/

namespace Sys2Proof

/-! ### The formats (R82) -/

/-- A format: the fields of its words, as a function of the opcode and of operands legal by their type, and
the mask and the constraint that stand in the table's rows of this format (R96). -/
structure WordFormat (α : Type) where
  fields : BitVec 8 → α → Fields
  mask : Fields
  constraint : OpConstraint

namespace WordFormat

/-- An opcode and nothing else. -/
def opFields (op : BitVec 8) : Fields := ⟨op, 0, 0, 0, 0, 0, 0⟩

/-- Format `N`: no operand. -/
def n : WordFormat Unit where
  fields op _ := opFields op
  mask := ⟨0xFF, 0xFF, 0xFF, 0xFF, 0xFFFFFFFF, 0xFFFFFFFF, 0xFFFFFFFF⟩
  constraint := .none

/-- Format `U`: a unit number of at most 2. -/
def u : WordFormat {u : BitVec 8 // u.toNat ≤ 2} where
  fields op x := { opFields op with a := x }
  mask := ⟨0xFF, 0, 0xFF, 0xFF, 0xFFFFFFFF, 0xFFFFFFFF, 0xFFFFFFFF⟩
  constraint := .unit

/-- Format `P`: a percent, any of its 256 values (R92). -/
def p : WordFormat Percent where
  fields op x := { opFields op with a := x }
  mask := ⟨0xFF, 0, 0xFF, 0xFF, 0xFFFFFFFF, 0xFFFFFFFF, 0xFFFFFFFF⟩
  constraint := .none

/-- Format `PV`: a percent and a valve request. -/
def pv : WordFormat (Percent × Bool) where
  fields op | (percent, valve) => { opFields op with a := percent, b := flagField valve }
  mask := ⟨0xFF, 0, 0xFE, 0xFF, 0xFFFFFFFF, 0xFFFFFFFF, 0xFFFFFFFF⟩
  constraint := .none

/-- Format `PVM`: as `PV`, with a mode of at most 5. -/
def pvm : WordFormat (Percent × Bool × {m : BitVec 3 // m.toNat ≤ 5}) where
  fields op
    | (percent, valve, mode) =>
      { opFields op with a := percent, b := flagField valve, c := mode.1.setWidth 8 }
  mask := ⟨0xFF, 0, 0xFE, 0xF8, 0xFFFFFFFF, 0xFFFFFFFF, 0xFFFFFFFF⟩
  constraint := .mode

/-- Format `PD`: a percent and a duration. -/
def pd : WordFormat (Percent × Millis) where
  fields op | (percent, durationMs) => { opFields op with a := percent, m0 := durationMs }
  mask := ⟨0xFF, 0, 0xFF, 0xFF, 0, 0xFFFFFFFF, 0xFFFFFFFF⟩
  constraint := .none

/-- Format `TM`: a temperature and a PID mode. -/
def tm : WordFormat (Q16 × Bool) where
  fields op | (temp, steam) => { opFields op with b := flagField steam, m0 := temp }
  mask := ⟨0xFF, 0xFF, 0xFE, 0xFF, 0, 0xFFFFFFFF, 0xFFFFFFFF⟩
  constraint := .none

/-- Format `VC`: a value and a count of cycles. -/
def vc : WordFormat (Q16 × BitVec 32) where
  fields op | (value, cycles) => { opFields op with m0 := value, m1 := cycles }
  mask := ⟨0xFF, 0xFF, 0xFF, 0xFF, 0, 0, 0xFFFFFFFF⟩
  constraint := .none

/-- Format `SH`: three durations and two percents. -/
def sh : WordFormat (Millis × Millis × Millis × Percent × Percent) where
  fields op
    | (initFillMs, rampMs, pauseMs, startPct, stopPct) =>
      { opFields op with a := startPct, b := stopPct, m0 := initFillMs, m1 := rampMs, m2 := pauseMs }
  mask := ⟨0xFF, 0, 0, 0xFF, 0, 0, 0⟩
  constraint := .none

/-- Format `PH`: three durations. -/
def ph : WordFormat (Millis × Millis × Millis) where
  fields op
    | (pumpMs, stopPumpMs, pauseMs) =>
      { opFields op with m0 := pumpMs, m1 := stopPumpMs, m2 := pauseMs }
  mask := ⟨0xFF, 0xFF, 0xFF, 0xFF, 0, 0, 0⟩
  constraint := .none

end WordFormat

/-! ### Single fields -/

/-- The must-be-zero bits of a flag field are 0 exactly in the two flag fields. -/
theorem flagField_zeros_iff {b : BitVec 8} : b.extractLsb' 1 7 = 0 ↔ ∃ v, b = flagField v :=
  ⟨fun h => ⟨b[0], (flagField_of_zeros b h).symm⟩, by rintro ⟨v, rfl⟩; exact flagField_zeros v⟩

/-- The must-be-zero bits of a mode field are 0 exactly in the eight mode fields. -/
theorem modeField_zeros_iff {c : BitVec 8} :
    c.extractLsb' 3 5 = 0 ↔ ∃ m : BitVec 3, c = m.setWidth 8 :=
  ⟨fun h => ⟨_, (modeField_of_zeros c h).symm⟩, by rintro ⟨m, rfl⟩; exact modeField_zeros m⟩

/-- `0xFE`, the mask of a flag field, selects its must-be-zero bits. -/
theorem and_flagMask_iff {b : BitVec 8} : b &&& 254#8 = 0#8 ↔ ∃ v, b = flagField v := by
  rw [← flagField_zeros_iff]
  revert b
  decide

/-- `0xF8`, the mask of a mode field, selects its must-be-zero bits. -/
theorem and_modeMask_iff {c : BitVec 8} : c &&& 248#8 = 0#8 ↔ ∃ m : BitVec 3, c = m.setWidth 8 := by
  rw [← modeField_zeros_iff]
  revert c
  decide

/-! `BitVec.and_allOnes` in the spelling of the masks. -/

@[simp] theorem and_ones8 (x : BitVec 8) : x &&& 255#8 = x := BitVec.and_allOnes

@[simp] theorem and_ones32 (x : BitVec 32) : x &&& 4294967295#32 = x := BitVec.and_allOnes

/-! ### Each format's decoder accepts exactly the format's fields -/

section Decoders
open WordFormat

/-- A guarded decoder accepts where the guard holds and the rest accepts. -/
theorem guarded_eq_ok_iff {P : Prop} [Decidable P] {d : Except DecodeError Instr} {e : DecodeError}
    {i : Instr} : (if P then d else .error e) = .ok i ↔ P ∧ d = .ok i := by
  split <;> simp_all

variable {f : Fields} {i : Instr}

theorem decodeN_eq_ok_iff {j : Instr} :
    decodeN f j = .ok i ↔ ∃ x, f = n.fields f.op x ∧ j = i := by
  obtain ⟨op, a, b, c, m0, m1, m2⟩ := f
  simp [decodeN, n, opFields, guarded_eq_ok_iff]

theorem decodeU_eq_ok_iff {k : BitVec 8 → Instr} :
    decodeU f k = .ok i ↔ ∃ x, f = u.fields f.op x ∧ k x = i := by
  obtain ⟨op, a, b, c, m0, m1, m2⟩ := f
  simp [decodeU, u, opFields, guarded_eq_ok_iff]

theorem decodeP_eq_ok_iff {k : Percent → Instr} :
    decodeP f k = .ok i ↔ ∃ x, f = p.fields f.op x ∧ k x = i := by
  obtain ⟨op, a, b, c, m0, m1, m2⟩ := f
  simp [decodeP, p, opFields, guarded_eq_ok_iff]

theorem decodePV_eq_ok_iff {k : Percent → Bool → Instr} :
    decodePV f k = .ok i ↔ ∃ x, f = pv.fields f.op x ∧ k x.1 x.2 = i := by
  obtain ⟨op, a, b, c, m0, m1, m2⟩ := f
  simp only [decodePV, guarded_eq_ok_iff, flagField_zeros_iff]
  constructor
  · rintro ⟨⟨⟨v, rfl⟩, rfl, rfl, rfl, rfl⟩, h⟩
    exact ⟨(a, v), rfl, by simpa using h⟩
  · rintro ⟨⟨percent, valve⟩, h, rfl⟩
    cases h
    exact ⟨⟨⟨valve, rfl⟩, rfl, rfl, rfl, rfl⟩, by simp⟩

theorem decodePVM_eq_ok_iff {k : Percent → Bool → BitVec 3 → Instr} :
    decodePVM f k = .ok i ↔ ∃ x, f = pvm.fields f.op x ∧ k x.1 x.2.1 x.2.2 = i := by
  obtain ⟨op, a, b, c, m0, m1, m2⟩ := f
  simp only [decodePVM, guarded_eq_ok_iff, flagField_zeros_iff, modeField_zeros_iff]
  constructor
  · rintro ⟨⟨⟨v, rfl⟩, ⟨m, rfl⟩, rfl, rfl, rfl⟩, hm, h⟩
    rw [modeField_mode] at hm
    exact ⟨(a, v, ⟨m, hm⟩), rfl, by simpa using h⟩
  · rintro ⟨⟨percent, valve, ⟨mode, hm⟩⟩, h, rfl⟩
    cases h
    exact ⟨⟨⟨valve, rfl⟩, ⟨mode, rfl⟩, rfl, rfl, rfl⟩, by simpa using hm, by simp⟩

theorem decodePD_eq_ok_iff {k : Percent → Millis → Instr} :
    decodePD f k = .ok i ↔ ∃ x, f = pd.fields f.op x ∧ k x.1 x.2 = i := by
  obtain ⟨op, a, b, c, m0, m1, m2⟩ := f
  simp [decodePD, pd, opFields, guarded_eq_ok_iff]

theorem decodeTM_eq_ok_iff {k : Q16 → Bool → Instr} :
    decodeTM f k = .ok i ↔ ∃ x, f = tm.fields f.op x ∧ k x.1 x.2 = i := by
  obtain ⟨op, a, b, c, m0, m1, m2⟩ := f
  simp only [decodeTM, guarded_eq_ok_iff, flagField_zeros_iff]
  constructor
  · rintro ⟨⟨rfl, ⟨v, rfl⟩, rfl, rfl, rfl⟩, h⟩
    exact ⟨(m0, v), rfl, by simpa using h⟩
  · rintro ⟨⟨temp, steam⟩, h, rfl⟩
    cases h
    exact ⟨⟨rfl, ⟨steam, rfl⟩, rfl, rfl, rfl⟩, by simp⟩

theorem decodeVC_eq_ok_iff {k : Q16 → BitVec 32 → Instr} :
    decodeVC f k = .ok i ↔ ∃ x, f = vc.fields f.op x ∧ k x.1 x.2 = i := by
  obtain ⟨op, a, b, c, m0, m1, m2⟩ := f
  simp [decodeVC, vc, opFields, guarded_eq_ok_iff]

theorem decodeSH_eq_ok_iff {k : Millis → Millis → Millis → Percent → Percent → Instr} :
    decodeSH f k = .ok i ↔
      ∃ x, f = sh.fields f.op x ∧ k x.1 x.2.1 x.2.2.1 x.2.2.2.1 x.2.2.2.2 = i := by
  obtain ⟨op, a, b, c, m0, m1, m2⟩ := f
  simp [decodeSH, sh, opFields, guarded_eq_ok_iff]

theorem decodePH_eq_ok_iff {k : Millis → Millis → Millis → Instr} :
    decodePH f k = .ok i ↔ ∃ x, f = ph.fields f.op x ∧ k x.1 x.2.1 x.2.2 = i := by
  obtain ⟨op, a, b, c, m0, m1, m2⟩ := f
  simp [decodePH, ph, opFields, guarded_eq_ok_iff]

end Decoders

/-! ### Each format's mask and constraint accept exactly the format's words (R96) -/

/-- The fields of a masked word. -/
def Fields.and (f g : Fields) : Fields :=
  ⟨f.op &&& g.op, f.a &&& g.a, f.b &&& g.b, f.c &&& g.c, f.m0 &&& g.m0, f.m1 &&& g.m1, f.m2 &&& g.m2⟩

theorem fieldsOf_and (v w : CommandWord) : fieldsOf (v &&& w) = (fieldsOf v).and (fieldsOf w) := by
  simp only [fieldsOf, BitVec.extractLsb'_and, Fields.and]

theorem eq_wordOf_iff {f : Fields} {w : CommandWord} : w = wordOf f ↔ fieldsOf w = f :=
  ⟨by rintro rfl; simp, by rintro rfl; simp⟩

theorem unit_holds_iff (w : CommandWord) :
    OpConstraint.unit.holds w = true ↔ (fieldsOf w).a.toNat ≤ 2 := by
  simp [OpConstraint.holds, fieldsOf]

theorem mode_holds_iff (w : CommandWord) :
    OpConstraint.mode.holds w = true ↔ ((fieldsOf w).c.extractLsb' 0 3).toNat ≤ 5 := by
  have hmode : w.extractLsb' 24 3 = (fieldsOf w).c.extractLsb' 0 3 := by
    ext k hk
    simp [fieldsOf, show k < 8 by omega]
  simp [OpConstraint.holds, hmode]

namespace WordFormat

/-- The mask and the constraint of a format accept, for an opcode, exactly the format's words with it. -/
def MaskExact {α : Type} (F : WordFormat α) : Prop :=
  ∀ (w : CommandWord) (op : BitVec 8),
    ((fieldsOf w).and F.mask = opFields op ∧ F.constraint.holds w = true) ↔
      ∃ x, fieldsOf w = F.fields op x

/-- For a format without a constraint the mask alone decides. -/
theorem maskExact_of_unconstrained {α : Type} {F : WordFormat α} (hF : F.constraint = .none)
    (h : ∀ (f : Fields) (op : BitVec 8), f.and F.mask = opFields op ↔ ∃ x, f = F.fields op x) :
    F.MaskExact := fun w op => by simp [hF, OpConstraint.holds, h]

theorem n_maskExact : n.MaskExact := by
  refine maskExact_of_unconstrained rfl ?_
  rintro ⟨op, a, b, c, m0, m1, m2⟩ op'
  simp [n, Fields.and, opFields]

theorem u_maskExact : u.MaskExact := by
  intro w op'
  simp only [u, unit_holds_iff]
  obtain ⟨op, a, b, c, m0, m1, m2⟩ := fieldsOf w
  simp [Fields.and, opFields]
  tauto

theorem p_maskExact : p.MaskExact := by
  refine maskExact_of_unconstrained rfl ?_
  rintro ⟨op, a, b, c, m0, m1, m2⟩ op'
  simp [p, Fields.and, opFields]

theorem pv_maskExact : pv.MaskExact := by
  refine maskExact_of_unconstrained rfl ?_
  rintro ⟨op, a, b, c, m0, m1, m2⟩ op'
  simp [pv, Fields.and, opFields, and_flagMask_iff]

theorem pvm_maskExact : pvm.MaskExact := by
  intro w op'
  simp only [pvm, mode_holds_iff]
  obtain ⟨op, a, b, c, m0, m1, m2⟩ := fieldsOf w
  simp only [Fields.and, opFields, Fields.mk.injEq, BitVec.ofNat_eq_ofNat, and_ones8, and_ones32,
    and_flagMask_iff, and_modeMask_iff]
  constructor
  · rintro ⟨⟨rfl, -, ⟨valve, rfl⟩, ⟨mode, rfl⟩, rfl, rfl, rfl⟩, hm⟩
    rw [modeField_mode] at hm
    exact ⟨(a, valve, ⟨mode, hm⟩), rfl, rfl, rfl, rfl, rfl, rfl, rfl⟩
  · rintro ⟨⟨percent, valve, ⟨mode, hm⟩⟩, rfl, rfl, rfl, rfl, rfl, rfl, rfl⟩
    simp [hm]

theorem pd_maskExact : pd.MaskExact := by
  refine maskExact_of_unconstrained rfl ?_
  rintro ⟨op, a, b, c, m0, m1, m2⟩ op'
  simp [pd, Fields.and, opFields]

theorem tm_maskExact : tm.MaskExact := by
  refine maskExact_of_unconstrained rfl ?_
  rintro ⟨op, a, b, c, m0, m1, m2⟩ op'
  simp [tm, Fields.and, opFields, and_flagMask_iff]

theorem vc_maskExact : vc.MaskExact := by
  refine maskExact_of_unconstrained rfl ?_
  rintro ⟨op, a, b, c, m0, m1, m2⟩ op'
  simp [vc, Fields.and, opFields]

theorem sh_maskExact : sh.MaskExact := by
  refine maskExact_of_unconstrained rfl ?_
  rintro ⟨op, a, b, c, m0, m1, m2⟩ op'
  simp [sh, Fields.and, opFields]

theorem ph_maskExact : ph.MaskExact := by
  refine maskExact_of_unconstrained rfl ?_
  rintro ⟨op, a, b, c, m0, m1, m2⟩ op'
  simp [ph, Fields.and, opFields]

end WordFormat

/-! ### The opcode map and the encoder (R81 to R85, R88, R92) -/

/-- `i` is a legal command whose word has the fields `f`. -/
def Encodes (i : Instr) (f : Fields) : Prop := i.wellFormed = true ∧ encodeFields i = f

theorem encodes_fieldsOf_iff {i : Instr} {w : CommandWord} :
    Encodes i (fieldsOf w) ↔ i.wellFormed = true ∧ encode i = w := by
  rw [Encodes, encode, eq_comm (b := w), eq_wordOf_iff, eq_comm (b := fieldsOf w)]

/-- What a format's decoder reads is encoded by the fields read, where each command of that format and
opcode is encoded by the fields of its operands. -/
theorem encodes_of_format {α : Type} {F : WordFormat α} {f : Fields} {k : α → Instr} {op : Nat} {i : Instr}
    (hop : f.op.toNat = op) (h : ∃ x, f = F.fields f.op x ∧ k x = i)
    (hk : ∀ x, Encodes (k x) (F.fields (BitVec.ofNat 8 op) x)) : Encodes i f := by
  obtain ⟨x, hf, rfl⟩ := h
  rw [hf, show f.op = BitVec.ofNat 8 op by simp [← hop]]
  exact hk x

/-- The opcode map reads only encodings, opcode by opcode. -/
theorem encodes_of_decodeFields {f : Fields} {i : Instr} (h : decodeFields f = .ok i) :
    Encodes i f := by
  have n {op : Nat} {j : Instr} (hop : f.op.toNat = op) (h : decodeN f j = .ok i)
      (hj : Encodes j (WordFormat.n.fields (BitVec.ofNat 8 op) ())) : Encodes i f :=
    encodes_of_format hop (decodeN_eq_ok_iff.1 h) fun _ => hj
  have u {op : Nat} {k : BitVec 8 → Instr} (hop : f.op.toNat = op) (h : decodeU f k = .ok i)
      (hk : ∀ x : {u : BitVec 8 // u.toNat ≤ 2},
        Encodes (k x) (WordFormat.u.fields (BitVec.ofNat 8 op) x)) : Encodes i f :=
    encodes_of_format hop (decodeU_eq_ok_iff.1 h) hk
  have pv {op : Nat} {k : Percent → Bool → Instr} (hop : f.op.toNat = op) (h : decodePV f k = .ok i)
      (hk : ∀ x : Percent × Bool, Encodes (k x.1 x.2) (WordFormat.pv.fields (BitVec.ofNat 8 op) x)) :
      Encodes i f :=
    encodes_of_format hop (decodePV_eq_ok_iff.1 h) hk
  unfold decodeFields at h
  split at h <;> rename_i hop
  · exact n hop h ⟨rfl, rfl⟩
  · exact n hop h ⟨rfl, rfl⟩
  · exact n hop h ⟨rfl, rfl⟩
  · exact pv hop h fun _ => ⟨rfl, rfl⟩
  · exact n hop h ⟨rfl, rfl⟩
  · exact n hop h ⟨rfl, rfl⟩
  · exact pv hop h fun _ => ⟨rfl, rfl⟩
  · exact encodes_of_format hop (decodePD_eq_ok_iff.1 h) fun _ => ⟨rfl, rfl⟩
  · exact encodes_of_format hop (decodePVM_eq_ok_iff.1 h) fun x => ⟨decide_eq_true x.2.2.2, rfl⟩
  · exact n hop h ⟨rfl, rfl⟩
  · exact n hop h ⟨rfl, rfl⟩
  · exact n hop h ⟨rfl, rfl⟩
  · exact n hop h ⟨rfl, rfl⟩
  · exact n hop h ⟨rfl, rfl⟩
  · exact n hop h ⟨rfl, rfl⟩
  · exact n hop h ⟨rfl, rfl⟩
  · exact n hop h ⟨rfl, rfl⟩
  · exact u hop h fun x => ⟨decide_eq_true x.2, rfl⟩
  · exact u hop h fun x => ⟨decide_eq_true x.2, rfl⟩
  · exact u hop h fun x => ⟨decide_eq_true x.2, rfl⟩
  · exact u hop h fun x => ⟨decide_eq_true x.2, rfl⟩
  · exact encodes_of_format hop (decodeP_eq_ok_iff.1 h) fun _ => ⟨rfl, rfl⟩
  · exact n hop h ⟨rfl, rfl⟩
  · exact encodes_of_format hop (decodeP_eq_ok_iff.1 h) fun _ => ⟨rfl, rfl⟩
  · exact n hop h ⟨rfl, rfl⟩
  · exact n hop h ⟨rfl, rfl⟩
  · exact n hop h ⟨rfl, rfl⟩
  · exact encodes_of_format hop (decodeTM_eq_ok_iff.1 h) fun _ => ⟨rfl, rfl⟩
  · exact encodes_of_format hop (decodeVC_eq_ok_iff.1 h) fun _ => ⟨rfl, rfl⟩
  · exact n hop h ⟨rfl, rfl⟩
  · exact encodes_of_format hop (decodeSH_eq_ok_iff.1 h) fun _ => ⟨rfl, rfl⟩
  · exact pv hop h fun _ => ⟨rfl, rfl⟩
  · exact encodes_of_format hop (decodePH_eq_ok_iff.1 h) fun _ => ⟨rfl, rfl⟩
  · exact pv hop h fun _ => ⟨rfl, rfl⟩
  · cases h

/-- The opcode map reads every encoding, format by format. -/
theorem decodeFields_encodeFields {i : Instr} (h : i.wellFormed = true) :
    decodeFields (encodeFields i) = .ok i := by
  cases i with
  | nop | wcEnable | wcDisable | wcStartShot | wcStartPreheat | qShotTime | qPidP | qPidI | qPidD
  | qPidU | qPumpDuty | qStatus | tickMs | pumpTick | heaterTick | pidStart | pidStop | pidCycle =>
    exact decodeN_eq_ok_iff.2 ⟨(), rfl, rfl⟩
  | poEnable unit | poDisable unit | poOn unit | poOff unit =>
    exact decodeU_eq_ok_iff.2 ⟨⟨unit, of_decide_eq_true h⟩, rfl, rfl⟩
  | pumpSetLevel percent | heaterSetDuty percent => exact decodeP_eq_ok_iff.2 ⟨percent, rfl, rfl⟩
  | wcStartPump percent valve | wcStartSteam percent valve | shotStop percent valve
  | preheatStop percent valve => exact decodePV_eq_ok_iff.2 ⟨(percent, valve), rfl, rfl⟩
  | wcStop percent valve mode =>
    exact decodePVM_eq_ok_iff.2 ⟨(percent, valve, ⟨mode, of_decide_eq_true h⟩), rfl, rfl⟩
  | wcOverridePump percent durationMs => exact decodePD_eq_ok_iff.2 ⟨(percent, durationMs), rfl, rfl⟩
  | pidSetTarget temp steam => exact decodeTM_eq_ok_iff.2 ⟨(temp, steam), rfl, rfl⟩
  | pidOverride value cycles => exact decodeVC_eq_ok_iff.2 ⟨(value, cycles), rfl, rfl⟩
  | shotStart initFillMs rampMs pauseMs startPct stopPct =>
    exact decodeSH_eq_ok_iff.2 ⟨(initFillMs, rampMs, pauseMs, startPct, stopPct), rfl, rfl⟩
  | preheatStart pumpMs stopPumpMs pauseMs =>
    exact decodePH_eq_ok_iff.2 ⟨(pumpMs, stopPumpMs, pauseMs), rfl, rfl⟩

theorem decodeFields_eq_ok_iff {f : Fields} {i : Instr} : decodeFields f = .ok i ↔ Encodes i f :=
  ⟨encodes_of_decodeFields, by rintro ⟨hi, rfl⟩; exact decodeFields_encodeFields hi⟩

/-- The words that decode to a command are the command's one encoding, where it is legal. -/
theorem decode_eq_ok_iff {w : CommandWord} {i : Instr} :
    decode w = .ok i ↔ i.wellFormed = true ∧ encode i = w := by
  rw [decode, decodeFields_eq_ok_iff, encodes_fieldsOf_iff]

/-! ### The table (R96) -/

/-- The row stands under the command's mnemonic, in its group. -/
def OpRow.Names (r : OpRow) (i : Instr) : Prop :=
  mnemonicOf i = r.mnemonic ∧ i.isComponent = r.component

/-- The pattern, the mask and the constraint of the row are those of format `F` with opcode `op`. -/
structure OpRow.HasFormat {α : Type} (r : OpRow) (F : WordFormat α) (op : BitVec 8) : Prop where
  pattern : fieldsOf r.pattern = WordFormat.opFields op
  mask : fieldsOf r.mask = F.mask
  constraint : r.constraint = F.constraint

/-- A row accepts exactly the words of its format with its opcode. -/
theorem OpRow.HasFormat.accepts_iff {α : Type} {r : OpRow} {F : WordFormat α} {op : BitVec 8}
    (h : r.HasFormat F op) (hF : F.MaskExact) (w : CommandWord) :
    r.accepts w = true ↔ ∃ x, fieldsOf w = F.fields op x := by
  rw [← hF, ← h.mask, ← h.pattern, ← fieldsOf_and, ← h.constraint, ← eq_wordOf_iff, wordOf_fieldsOf]
  simp [OpRow.accepts]

/-- Every word the row accepts decodes to a command the row names. -/
def OpRow.Sound (r : OpRow) : Prop :=
  ∀ w, r.accepts w = true → ∃ i, decode w = .ok i ∧ r.Names i

theorem sound_of_format {α : Type} {r : OpRow} {F : WordFormat α} {op : BitVec 8} (hF : F.MaskExact)
    (k : α → Instr) (h : r.HasFormat F op)
    (hk : ∀ x, Encodes (k x) (F.fields op x) ∧ r.Names (k x)) : r.Sound := by
  intro w hw
  obtain ⟨x, hx⟩ := (h.accepts_iff hF w).1 hw
  obtain ⟨hwf, he⟩ := (hk x).1
  exact ⟨k x, by rw [decode, hx, ← he, decodeFields_encodeFields hwf], (hk x).2⟩

/-- Each row is sound, as the row of one command's format and opcode. -/
theorem opcodeTable_sound : ∀ r ∈ opcodeTable, r.Sound := by
  have n {r : OpRow} {op : BitVec 8} {i : Instr} (h : r.HasFormat .n op)
      (hi : Encodes i (WordFormat.n.fields op ()) ∧ r.Names i) : r.Sound :=
    sound_of_format WordFormat.n_maskExact (fun _ => i) h fun _ => hi
  have u {r : OpRow} {op : BitVec 8} (k : BitVec 8 → Instr) (h : r.HasFormat .u op)
      (hk : ∀ x : {u : BitVec 8 // u.toNat ≤ 2}, Encodes (k x) (WordFormat.u.fields op x) ∧ r.Names (k x)) :
      r.Sound :=
    sound_of_format WordFormat.u_maskExact _ h hk
  have p {r : OpRow} {op : BitVec 8} (k : Percent → Instr) (h : r.HasFormat .p op)
      (hk : ∀ x, Encodes (k x) (WordFormat.p.fields op x) ∧ r.Names (k x)) : r.Sound :=
    sound_of_format WordFormat.p_maskExact _ h hk
  have pv {r : OpRow} {op : BitVec 8} (k : Percent → Bool → Instr) (h : r.HasFormat .pv op)
      (hk : ∀ x : Percent × Bool, Encodes (k x.1 x.2) (WordFormat.pv.fields op x) ∧ r.Names (k x.1 x.2)) :
      r.Sound :=
    sound_of_format WordFormat.pv_maskExact _ h hk
  simp only [opcodeTable, hostRows, componentRows, List.cons_append, List.nil_append,
    List.forall_mem_cons]
  refine ⟨
    n (i := .nop) ⟨rfl, rfl, rfl⟩ ⟨⟨rfl, rfl⟩, rfl, rfl⟩,
    n (i := .wcEnable) ⟨rfl, rfl, rfl⟩ ⟨⟨rfl, rfl⟩, rfl, rfl⟩,
    n (i := .wcDisable) ⟨rfl, rfl, rfl⟩ ⟨⟨rfl, rfl⟩, rfl, rfl⟩,
    pv .wcStartPump ⟨rfl, rfl, rfl⟩ fun _ => ⟨⟨rfl, rfl⟩, rfl, rfl⟩,
    n (i := .wcStartShot) ⟨rfl, rfl, rfl⟩ ⟨⟨rfl, rfl⟩, rfl, rfl⟩,
    n (i := .wcStartPreheat) ⟨rfl, rfl, rfl⟩ ⟨⟨rfl, rfl⟩, rfl, rfl⟩,
    pv .wcStartSteam ⟨rfl, rfl, rfl⟩ fun _ => ⟨⟨rfl, rfl⟩, rfl, rfl⟩,
    sound_of_format WordFormat.pd_maskExact (fun x => .wcOverridePump x.1 x.2) ⟨rfl, rfl, rfl⟩
      fun _ => ⟨⟨rfl, rfl⟩, rfl, rfl⟩,
    sound_of_format WordFormat.pvm_maskExact (fun x => .wcStop x.1 x.2.1 x.2.2) ⟨rfl, rfl, rfl⟩
      fun x => ⟨⟨decide_eq_true x.2.2.2, rfl⟩, rfl, rfl⟩,
    n (i := .qShotTime) ⟨rfl, rfl, rfl⟩ ⟨⟨rfl, rfl⟩, rfl, rfl⟩,
    n (i := .qPidP) ⟨rfl, rfl, rfl⟩ ⟨⟨rfl, rfl⟩, rfl, rfl⟩,
    n (i := .qPidI) ⟨rfl, rfl, rfl⟩ ⟨⟨rfl, rfl⟩, rfl, rfl⟩,
    n (i := .qPidD) ⟨rfl, rfl, rfl⟩ ⟨⟨rfl, rfl⟩, rfl, rfl⟩,
    n (i := .qPidU) ⟨rfl, rfl, rfl⟩ ⟨⟨rfl, rfl⟩, rfl, rfl⟩,
    n (i := .qPumpDuty) ⟨rfl, rfl, rfl⟩ ⟨⟨rfl, rfl⟩, rfl, rfl⟩,
    n (i := .qStatus) ⟨rfl, rfl, rfl⟩ ⟨⟨rfl, rfl⟩, rfl, rfl⟩,
    n (i := .tickMs) ⟨rfl, rfl, rfl⟩ ⟨⟨rfl, rfl⟩, rfl, rfl⟩,
    u .poEnable ⟨rfl, rfl, rfl⟩ fun x => ⟨⟨decide_eq_true x.2, rfl⟩, rfl, rfl⟩,
    u .poDisable ⟨rfl, rfl, rfl⟩ fun x => ⟨⟨decide_eq_true x.2, rfl⟩, rfl, rfl⟩,
    u .poOn ⟨rfl, rfl, rfl⟩ fun x => ⟨⟨decide_eq_true x.2, rfl⟩, rfl, rfl⟩,
    u .poOff ⟨rfl, rfl, rfl⟩ fun x => ⟨⟨decide_eq_true x.2, rfl⟩, rfl, rfl⟩,
    p .pumpSetLevel ⟨rfl, rfl, rfl⟩ fun _ => ⟨⟨rfl, rfl⟩, rfl, rfl⟩,
    n (i := .pumpTick) ⟨rfl, rfl, rfl⟩ ⟨⟨rfl, rfl⟩, rfl, rfl⟩,
    p .heaterSetDuty ⟨rfl, rfl, rfl⟩ fun _ => ⟨⟨rfl, rfl⟩, rfl, rfl⟩,
    n (i := .heaterTick) ⟨rfl, rfl, rfl⟩ ⟨⟨rfl, rfl⟩, rfl, rfl⟩,
    n (i := .pidStart) ⟨rfl, rfl, rfl⟩ ⟨⟨rfl, rfl⟩, rfl, rfl⟩,
    n (i := .pidStop) ⟨rfl, rfl, rfl⟩ ⟨⟨rfl, rfl⟩, rfl, rfl⟩,
    sound_of_format WordFormat.tm_maskExact (fun x => .pidSetTarget x.1 x.2) ⟨rfl, rfl, rfl⟩
      fun _ => ⟨⟨rfl, rfl⟩, rfl, rfl⟩,
    sound_of_format WordFormat.vc_maskExact (fun x => .pidOverride x.1 x.2) ⟨rfl, rfl, rfl⟩
      fun _ => ⟨⟨rfl, rfl⟩, rfl, rfl⟩,
    n (i := .pidCycle) ⟨rfl, rfl, rfl⟩ ⟨⟨rfl, rfl⟩, rfl, rfl⟩,
    sound_of_format WordFormat.sh_maskExact
      (fun x => .shotStart x.1 x.2.1 x.2.2.1 x.2.2.2.1 x.2.2.2.2) ⟨rfl, rfl, rfl⟩
      fun _ => ⟨⟨rfl, rfl⟩, rfl, rfl⟩,
    pv .shotStop ⟨rfl, rfl, rfl⟩ fun _ => ⟨⟨rfl, rfl⟩, rfl, rfl⟩,
    sound_of_format WordFormat.ph_maskExact (fun x => .preheatStart x.1 x.2.1 x.2.2) ⟨rfl, rfl, rfl⟩
      fun _ => ⟨⟨rfl, rfl⟩, rfl, rfl⟩,
    pv .preheatStop ⟨rfl, rfl, rfl⟩ fun _ => ⟨⟨rfl, rfl⟩, rfl, rfl⟩, nofun⟩

/-- The row at the index of a command's constructor, where it has the command's format, accepts its word:
the rows stand in the order of the constructors. -/
theorem row_of_format {α : Type} {r : OpRow} {F : WordFormat α} {op : BitVec 8} {i : Instr}
    (hF : F.MaskExact) (x : α) (hr : opcodeTable[i.ctorIdx]? = some r) (h : r.HasFormat F op)
    (hn : r.Names i) (hx : encodeFields i = F.fields op x) :
    ∃ r ∈ opcodeTable, r.accepts (encode i) = true ∧ r.Names i :=
  ⟨r, List.mem_of_getElem? hr, (h.accepts_iff hF _).2 ⟨x, by rw [encode, fieldsOf_wordOf, hx]⟩, hn⟩

/-- The word of every legal command is accepted by a row that names the command, format by format. -/
theorem opcodeTable_complete {i : Instr} (h : i.wellFormed = true) :
    ∃ r ∈ opcodeTable, r.accepts (encode i) = true ∧ r.Names i := by
  cases i with
  | nop | wcEnable | wcDisable | wcStartShot | wcStartPreheat | qShotTime | qPidP | qPidI | qPidD
  | qPidU | qPumpDuty | qStatus | tickMs | pumpTick | heaterTick | pidStart | pidStop | pidCycle =>
    exact row_of_format WordFormat.n_maskExact () rfl ⟨rfl, rfl, rfl⟩ ⟨rfl, rfl⟩ rfl
  | poEnable unit | poDisable unit | poOn unit | poOff unit =>
    exact row_of_format WordFormat.u_maskExact ⟨unit, of_decide_eq_true h⟩
      rfl ⟨rfl, rfl, rfl⟩ ⟨rfl, rfl⟩ rfl
  | pumpSetLevel percent | heaterSetDuty percent =>
    exact row_of_format WordFormat.p_maskExact percent rfl ⟨rfl, rfl, rfl⟩ ⟨rfl, rfl⟩ rfl
  | wcStartPump percent valve | wcStartSteam percent valve | shotStop percent valve
  | preheatStop percent valve =>
    exact row_of_format WordFormat.pv_maskExact (percent, valve) rfl ⟨rfl, rfl, rfl⟩ ⟨rfl, rfl⟩ rfl
  | wcStop percent valve mode =>
    exact row_of_format WordFormat.pvm_maskExact (percent, valve, ⟨mode, of_decide_eq_true h⟩)
      rfl ⟨rfl, rfl, rfl⟩ ⟨rfl, rfl⟩ rfl
  | wcOverridePump percent durationMs =>
    exact row_of_format WordFormat.pd_maskExact (percent, durationMs) rfl ⟨rfl, rfl, rfl⟩ ⟨rfl, rfl⟩ rfl
  | pidSetTarget temp steam =>
    exact row_of_format WordFormat.tm_maskExact (temp, steam) rfl ⟨rfl, rfl, rfl⟩ ⟨rfl, rfl⟩ rfl
  | pidOverride value cycles =>
    exact row_of_format WordFormat.vc_maskExact (value, cycles) rfl ⟨rfl, rfl, rfl⟩ ⟨rfl, rfl⟩ rfl
  | shotStart initFillMs rampMs pauseMs startPct stopPct =>
    exact row_of_format WordFormat.sh_maskExact (initFillMs, rampMs, pauseMs, startPct, stopPct)
      rfl ⟨rfl, rfl, rfl⟩ ⟨rfl, rfl⟩ rfl
  | preheatStart pumpMs stopPumpMs pauseMs =>
    exact row_of_format WordFormat.ph_maskExact (pumpMs, stopPumpMs, pauseMs)
      rfl ⟨rfl, rfl, rfl⟩ ⟨rfl, rfl⟩ rfl

/-- No two rows have one mnemonic. -/
theorem eq_of_mnemonic_eq {r r' : OpRow} (hr : r ∈ opcodeTable) (hr' : r' ∈ opcodeTable)
    (h : r.mnemonic = r'.mnemonic) : r = r' :=
  List.inj_on_of_nodup_map (f := OpRow.mnemonic) (by decide) hr hr' h

/-- A word decodes to a command exactly if it is accepted by the row that names the command. -/
theorem accepts_iff_decode {r : OpRow} (hr : r ∈ opcodeTable) (w : CommandWord) :
    r.accepts w = true ↔ ∃ i, decode w = .ok i ∧ r.Names i := by
  refine ⟨opcodeTable_sound r hr w, ?_⟩
  rintro ⟨i, hi, hn, -⟩
  obtain ⟨hwf, rfl⟩ := decode_eq_ok_iff.1 hi
  obtain ⟨r', hr', ha, hn', -⟩ := opcodeTable_complete hwf
  rwa [eq_of_mnemonic_eq hr hr' (hn.symm.trans hn')]

/-- A word that two rows accept decodes to one command, which both rows name. -/
theorem eq_of_accepts {r r' : OpRow} (hr : r ∈ opcodeTable) (hr' : r' ∈ opcodeTable) {w : CommandWord}
    (h : r.accepts w = true) (h' : r'.accepts w = true) : r = r' := by
  obtain ⟨i, hi, hn, -⟩ := opcodeTable_sound r hr w h
  obtain ⟨i', hi', hn', -⟩ := opcodeTable_sound r' hr' w h'
  obtain rfl : i = i' := Except.ok.inj (hi.symm.trans hi')
  exact eq_of_mnemonic_eq hr hr' (hn.symm.trans hn')

namespace Machine

/-! ### A step on a command word (R80, R92) -/

/-- A step on a word that decodes runs the command. -/
theorem step_of_decode {s : State} {w : CommandWord} {x : Sensors} {rest : List PortEvent} {i : Instr}
    (hf : s.feed = .command w x :: rest) (hd : decode w = .ok i) :
    step s = exec i (accept x rest s) := by
  simp [step, fetch_of_feed hf, hd]

/-- A step on a word that does not decode is an illegal word. -/
theorem step_of_decode_error {s : State} {w : CommandWord} {x : Sensors} {rest : List PortEvent}
    {e : DecodeError} (hf : s.feed = .command w x :: rest) (hd : decode w = .error e) :
    step s = .next (illegalWord (accept x rest s)) := by
  simp [step, fetch_of_feed hf, hd]

/-- With the component port closed a component command is an illegal word (R92 b). -/
theorem exec_component_of_closed {i : Instr} {s : State} (hi : i.isComponent = true)
    (hp : s.cfg.componentPort = false) : exec i s = .next (illegalWord s) := by
  have component (t : State) :
      (.next (componentOp s t) : Host.Outcome State Fault Refusal) = .next (illegalWord s) := by
    rw [componentOp_off hp]
  cases i with
  | nop | wcEnable | wcDisable | wcStartPump | wcStartShot | wcStartPreheat | wcStartSteam
  | wcOverridePump | wcStop | qShotTime | qPidP | qPidI | qPidD | qPidU | qPumpDuty | qStatus
  | tickMs => cases hi
  | poEnable | poDisable | poOn | poOff | pumpSetLevel | pumpTick | heaterSetDuty | heaterTick
  | pidStart | pidStop | pidSetTarget | pidOverride | pidCycle | shotStart | shotStop | preheatStart
  | preheatStop => exact component _

/-- An illegal word that decodes is a component command with the port closed. -/
theorem component_of_illegal {c : Cfg} {w : CommandWord} {i : Instr} (hw : Spec.Illegal c w)
    (hd : decode w = .ok i) : i.isComponent = true ∧ c.componentPort = false := by
  obtain ⟨hwf, rfl⟩ := decode_eq_ok_iff.1 hd
  obtain ⟨r, hr, ha, -, hgroup⟩ := opcodeTable_complete hwf
  obtain ⟨hcomp, hport⟩ := hw r hr ha
  exact ⟨hgroup.trans hcomp, hport⟩

/-- A step on an illegal word sets the flag in the state that took the strobe. -/
theorem step_of_illegal {s : State} {w : CommandWord} {x : Sensors} {rest : List PortEvent}
    (hf : s.feed = .command w x :: rest) (hw : Spec.Illegal s.cfg w) :
    step s = .next (illegalWord (accept x rest s)) := by
  cases hd : decode w with
  | error e => exact step_of_decode_error hf hd
  | ok i =>
    obtain ⟨hi, hp⟩ := component_of_illegal hw hd
    rw [step_of_decode hf hd, exec_component_of_closed hi (by simpa using hp)]

/-! ### Responses (R80 b) -/

section Responses
variable {s : State}

theorem componentOp_rsp {t : State} (ht : t.rsp = s.rsp) : (componentOp s t).rsp = s.rsp := by
  rcases componentOp_cases s t with ⟨-, e⟩ | ⟨-, e⟩ <;> simp [e, ht]

theorem onUnit_rsp (unit : BitVec 8) {f : PoUnit → State → State} (hf : ∀ x, (f x s).rsp = s.rsp) :
    (onUnit unit f s).rsp = s.rsp := by
  unfold onUnit
  split
  · exact hf _
  · simp

theorem execTickMs_rsp {t : State} (ht : execTickMs s = .next t) : t.rsp = s.rsp := by
  obtain ⟨-, u, hu, rfl⟩ := execTickMs_next ht
  have hloop : u.rsp = (runTicks (advanceClock s)).rsp :=
    runDueTimers_induct (P := fun v => v.rsp = (runTicks (advanceClock s)).rsp)
      (fun v hv _ => by simpa using hv) (fun v hv _ _ => by simpa using hv) _ _ _ hu rfl
  simpa using hloop

/-- On a silent port a query leaves a response and every other command none. -/
theorem exec_rsp (i : Instr) (hs : s.rsp = none) :
    NextSatisfies (fun t => t.rsp.isSome = i.isQuery) (exec i s) := by
  have silent {t : State} (ht : t.rsp = s.rsp) :
      NextSatisfies (fun t => t.rsp.isSome = false) (.next t) :=
    nextSatisfies_next (by rw [ht, hs]; rfl)
  have component {t : State} (ht : t.rsp = s.rsp) := silent (componentOp_rsp ht)
  cases i with
  | qShotTime | qPidP | qPidI | qPidD | qPidU | qPumpDuty | qStatus => exact nextSatisfies_next rfl
  | tickMs => exact fun t ht => silent (execTickMs_rsp ht) t rfl
  | nop => exact silent rfl
  | wcEnable | wcDisable | wcStartPump | wcOverridePump => exact silent (by simp)
  | wcStartShot | wcStartPreheat | wcStartSteam | wcStop => refine silent ?_; split <;> simp
  | poEnable | poDisable | poOn | poOff => exact component (onUnit_rsp _ fun x => by simp)
  | pumpSetLevel | pumpTick | heaterSetDuty | heaterTick | pidStart | pidStop | pidSetTarget
  | pidOverride | pidCycle | shotStart | shotStop | preheatStart | preheatStop =>
    exact component (by simp)

/-- A step leaves a response exactly when its strobe is the word of a query. -/
theorem step_rsp (s : State) :
    NextSatisfies (fun t => t.rsp.isSome = true ↔ ∃ w x rest i, s.feed = .command w x :: rest ∧
      decode w = .ok i ∧ i.isQuery = true) (step s) := by
  rcases step_cases s with ⟨hf, e⟩ | ⟨rest, hf, e⟩ | ⟨w, x, rest, i, hf, hd, e⟩ |
    ⟨w, x, rest, _, hf, hd, e⟩ <;> rw [e]
  · exact nextSatisfies_next (by simp [hf])
  · exact nextSatisfies_next (by simp [hf, resetInput, State.resetWith])
  · intro t ht
    rw [exec_rsp i (accept_ports x rest s).2.2 t ht]
    simp [hf, hd]
  · exact nextSatisfies_next (by simp [hf, hd])

end Responses

/-! ### The obligations -/

/-- Settles O3, by the decoder's characterisation as the inverse of the encoder. -/
theorem decodeOfEncodeIsTheCommand : Obligations.DecodeOfEncodeIsTheCommand :=
  fun _ hi => decode_eq_ok_iff.2 ⟨hi, rfl⟩

/-- Settles O4, by the decoder's characterisation as the inverse of the encoder. -/
theorem onlyEncodingsDecode : Obligations.OnlyEncodingsDecode :=
  fun _ _ hd => decode_eq_ok_iff.1 hd

/-- Settles O5: each row accepts the words of one format and opcode, which are those of the command it
names, and no two rows name one command. -/
theorem decoderAgreesWithTheMaskTable : Obligations.DecoderAgreesWithTheMaskTable :=
  ⟨rfl, fun _ hr w => accepts_iff_decode hr w, fun _ hr _ hr' _ => eq_of_accepts hr hr'⟩

/-- Settles O8: a word that no open row accepts does not decode, or is a component command with the port
closed. -/
theorem illegalWordsOnlySetTheirFlag : Obligations.IllegalWordsOnlySetTheirFlag :=
  fun _ _ _ _ hf hw => step_of_illegal hf hw

/-- Settles O58: the cases of a step, and only queries respond. -/
theorem responsesAnswerQueriesOnly : Obligations.ResponsesAnswerQueriesOnly :=
  fun s t ht => step_rsp s t ht

/-- Settles O6: each word is written as the table has it, and what is written is read back. -/
theorem workedEncodingsReadAndWrite : Obligations.WorkedEncodingsReadAndWrite := by
  have written (i : Instr) (w : CommandWord) (h : i.wellFormed = true ∧ encode i = w) :
      decode w = .ok i ∧ encode i = w := ⟨decode_eq_ok_iff.2 h, h.2⟩
  refine fun p hp => written p.1 p.2 ?_
  revert p
  decide

/-- Settles O7: the decoder's answer is the command the step runs. -/
theorem stepRunsTheDecodedCommand : Obligations.StepRunsTheDecodedCommand :=
  fun _ _ _ _ _ hf hd => step_of_decode hf hd

end Machine
end Sys2Proof
end

section
/-! PROOFS. The PhaseOutput commands (spec/40_phase_output.md R110 to R113). Each of the four is a word of
format `U` and runs one procedure on the unit its operand names; what a command does to a unit is then what
its procedure does to the unit's two bits. -/

namespace Sys2Proof.Machine
open Sys2Proof.Spec

/-! ### The statements' vocabulary for units and words -/

@[simp] theorem unitOf?_unitNumber (x : PoUnit) : unitOf? (unitNumber x) = some x := by
  cases x <;> rfl

theorem unitBits_eq_getPo (x : PoUnit) (s : State) : unitBits x s = getPo x s := by
  cases x <;> rfl

theorem withUnit_eq_setPo (x : PoUnit) (p : PhaseOutput) (s : State) :
    withUnit x p s = setPo x p s := by
  cases x <;> rfl

/-- A word with nothing but an opcode and the field `a`: those of formats `U` and `P` (R82). -/
theorem fieldsWord_opcode_a (op : Nat) (a : BitVec 8) :
    fieldsWord op a.toNat 0 0 0 0 0 = ⟨BitVec.ofNat 8 op, a, 0, 0, 0, 0, 0⟩ := by
  simp [fieldsWord]

/-! ### A command on a unit -/

@[simp] theorem onUnit_unitNumber (x : PoUnit) (f : PoUnit → State → State) (s : State) :
    onUnit (unitNumber x) f s = f x s := by
  simp [onUnit]

/-- With the port open a component command on a unit is its procedure on that unit. -/
theorem componentOp_onUnit {s : State} (h : s.cfg.componentPort = true) (x : PoUnit)
    (f : PoUnit → State → State) : componentOp s (onUnit (unitNumber x) f s) = f x s := by
  rw [componentOp_on h, onUnit_unitNumber]

theorem exec_poEnable_of_open {s : State} (h : s.cfg.componentPort = true) (x : PoUnit) :
    exec (.poEnable (unitNumber x)) s = .next (poEnable x s) :=
  congrArg Host.Outcome.next (componentOp_onUnit h x poEnable)

theorem exec_poDisable_of_open {s : State} (h : s.cfg.componentPort = true) (x : PoUnit) :
    exec (.poDisable (unitNumber x)) s = .next (poDisable x s) :=
  congrArg Host.Outcome.next (componentOp_onUnit h x poDisable)

theorem exec_poOn_of_open {s : State} (h : s.cfg.componentPort = true) (x : PoUnit) :
    exec (.poOn (unitNumber x)) s = .next (poOn x s) :=
  congrArg Host.Outcome.next (componentOp_onUnit h x poOn)

theorem exec_poOff_of_open {s : State} (h : s.cfg.componentPort = true) (x : PoUnit) :
    exec (.poOff (unitNumber x)) s = .next (poOff x s) :=
  congrArg Host.Outcome.next (componentOp_onUnit h x poOff)

/-! ### The procedures on a unit's two bits -/

theorem poEnable_eq_withUnit (x : PoUnit) (s : State) :
    poEnable x s = withUnit x ⟨true, (unitBits x s).out⟩ s := by
  rw [withUnit_eq_setPo, unitBits_eq_getPo, poEnable]

theorem poDisable_eq_withUnit (x : PoUnit) (s : State) :
    poDisable x s = withUnit x ⟨false, false⟩ s := by
  rw [withUnit_eq_setPo, poDisable]

theorem poOff_eq_withUnit (x : PoUnit) (s : State) :
    poOff x s = withUnit x ⟨(unitBits x s).en, false⟩ s := by
  rw [withUnit_eq_setPo, unitBits_eq_getPo, poOff]

theorem poOn_of_enabled {x : PoUnit} {s : State} (h : (unitBits x s).en = true) :
    poOn x s = withUnit x ⟨true, true⟩ s := by
  rw [unitBits_eq_getPo] at h
  rw [withUnit_eq_setPo, poOn_eq, h, Bool.true_or]

theorem poOn_of_disabled {x : PoUnit} {s : State} (h : (unitBits x s).en = false) :
    poOn x s = s := by
  rw [unitBits_eq_getPo] at h
  simp [poOn, h]

/-! ### The obligations -/

/-- Settles O10: the procedure writes the enable bit and reads the output it writes back. -/
theorem poEnableLeavesTheOutput : Obligations.PoEnableLeavesTheOutput := by
  intro x s hopen
  refine ⟨(fieldsWord_opcode_a _ _).symm, ?_⟩
  rw [exec_poEnable_of_open hopen, poEnable_eq_withUnit]

/-- Settles O11: the procedure writes both bits. -/
theorem poDisableForcesOff : Obligations.PoDisableForcesOff := by
  intro x s hopen
  refine ⟨(fieldsWord_opcode_a _ _).symm, ?_⟩
  rw [exec_poDisable_of_open hopen, poDisable_eq_withUnit]

/-- Settles O12, by the two cases of the enable bit. -/
theorem poOnNeedsTheEnable : Obligations.PoOnNeedsTheEnable := by
  intro x s hopen
  rw [exec_poOn_of_open hopen]
  refine ⟨(fieldsWord_opcode_a _ _).symm, fun hen => ?_, fun hdis => ?_⟩
  · rw [poOn_of_enabled hen]
  · rw [poOn_of_disabled hdis]

/-- Settles O13: the procedure writes the output without a test of the enable bit. -/
theorem poOffAlwaysActs : Obligations.PoOffAlwaysActs := by
  intro x s hopen
  refine ⟨(fieldsWord_opcode_a _ _).symm, ?_⟩
  rw [exec_poOff_of_open hopen, poOff_eq_withUnit]

end Sys2Proof.Machine
end

section
/-! PROOFS. PumpPWM (spec/41_pump_pwm.md R120 to R124). The slots of a level repeat with its period, so the
on ticks of whole periods are counted as on positions of one period, wherever the run starts. -/

namespace Sys2Proof.Machine
open Sys2Proof.Spec

/-! ### The bucket function (R120) -/

theorem levelPercent_levelOfTens {n : Nat} (h : n ≤ 10) : levelPercent (levelOfTens n) = 10 * n := by
  interval_cases n <;> rfl

theorem levelPercent_bucket (p : Percent) :
    levelPercent (bucket p) = if p.toNat > 100 then 100 else 10 * ((p.toNat + 5) / 10) := by
  unfold bucket
  split
  · rfl
  · exact levelPercent_levelOfTens (by omega)

/-- The percent of a level is a multiple of ten, which `bucket` leaves alone. -/
theorem bucket_levelPercent (l : PumpLevel) : bucket (BitVec.ofNat 8 (levelPercent l)) = l := by
  cases l <;> decide

theorem levelPercent_bucket_mono {p q : Percent} (h : p.toNat ≤ q.toNat) :
    levelPercent (bucket p) ≤ levelPercent (bucket q) := by
  simp only [levelPercent_bucket]
  split_ifs <;> omega

/-- The error bound of R120, on the percents that `bucket` does not cap. -/
theorem levelPercent_bucket_near {p : Percent} (h : p.toNat ≤ 100) :
    levelPercent (bucket p) ≤ p.toNat + 5 ∧ p.toNat ≤ levelPercent (bucket p) + 5 := by
  rw [levelPercent_bucket, if_neg (by omega)]
  omega

/-! ### The pattern table (R122) -/

theorem pumpTable_eq (l : PumpLevel) : pumpTable l = (pumpPeriod l, pumpOnPositions l) := by
  cases l <;> rfl

theorem pumpPeriod_pos (l : PumpLevel) : 0 < pumpPeriod l := by
  cases l <;> decide

theorem pumpPeriod_le_ten (l : PumpLevel) : pumpPeriod l ≤ 10 := by
  cases l <;> decide

/-- A position counted without end is on when its place in the period is an on position. -/
abbrev SlotIsOn (l : PumpLevel) (i : Nat) : Prop := i % pumpPeriod l ∈ pumpOnPositions l

theorem slotIsOn_congr {l : PumpLevel} {i j : Nat} (h : i ≡ j [MOD pumpPeriod l]) :
    SlotIsOn l i ↔ SlotIsOn l j := by
  rw [SlotIsOn, h]

theorem slotIsOn_periodic (l : PumpLevel) : Function.Periodic (SlotIsOn l) (pumpPeriod l) :=
  fun _ => propext (slotIsOn_congr Nat.add_modEq_right)

/-- The on positions are distinct places of the period: one period has as many on slots as the table
lists. -/
theorem count_slotIsOn_period (l : PumpLevel) :
    (pumpPeriod l).count (SlotIsOn l) = (pumpOnPositions l).length := by
  cases l <;> decide

/-! ### Counting over whole periods -/

section Periodic
variable {q : Nat → Prop} [DecidablePred q] {a : Nat}

/-- The count over one period is the same from every start: what a later start leaves out at the front
it meets again at the end. -/
theorem count_add_of_periodic (hq : Function.Periodic q a) (m : Nat) :
    a.count (fun i => q (m + i)) = a.count q := by
  have front : m.count (fun i => q (a + i)) = m.count q := by
    simp only [Nat.add_comm a, hq _]
  have hm := Nat.count_add q m a
  have ha := Nat.count_add q a m
  rw [Nat.add_comm a m, front] at ha
  omega

theorem count_mul_of_periodic (hq : Function.Periodic q a) (n : Nat) :
    (n * a).count q = n * a.count q := by
  induction n with
  | zero => simp
  | succ n ih => rw [Nat.succ_mul, Nat.count_add, ih, count_add_of_periodic hq, Nat.succ_mul]

/-- `n` whole periods, from any start. -/
theorem count_add_mul_of_periodic (hq : Function.Periodic q a) (m n : Nat) :
    (n * a).count (fun i => q (m + i)) = n * a.count q := by
  have hn : Function.Periodic q (n * a) := hq.nat_mul n
  rw [count_add_of_periodic hn, count_mul_of_periodic hq]

end Periodic

/-! ### An enabled tick (R123) -/

theorem pumpTick_po_of_enabled {s : State} (h : s.pump.po.en = true) :
    (pumpTick s).pump.po = ⟨true, decide (SlotIsOn s.pump.level s.pump.pos.val)⟩ := by
  rw [pumpTick_of_enabled h]
  rfl

/-- The next position is below the period, which is at most ten, so the register holds it exactly. -/
theorem pumpTick_pos_of_enabled {s : State} (h : s.pump.po.en = true) :
    (pumpTick s).pump.pos.val = (pumpPosition s + 1) % pumpPeriod s.pump.level := by
  have hlt := Nat.mod_lt (pumpPosition s + 1) (pumpPeriod_pos s.pump.level)
  rw [pumpTick_of_enabled h]
  exact Nat.mod_eq_of_lt (hlt.trans_le (pumpPeriod_le_ten _))

theorem pumpTick_pos_modEq {s : State} (h : s.pump.po.en = true) :
    (pumpTick s).pump.pos.val ≡ s.pump.pos.val + 1 [MOD pumpPeriod s.pump.level] := by
  rw [pumpTick_pos_of_enabled h]
  exact (Nat.mod_modEq _ _).trans ((Nat.mod_modEq _ _).add_right 1)

/-- An enabled tick in two cases, as R123 has them. -/
theorem pumpTick_of_enabled_cases {s : State} (h : s.pump.po.en = true) :
    pumpTick s = { s with pump :=
      if (SlotIsOn s.pump.level s.pump.pos.val) then
        { s.pump with po := ⟨true, true⟩, pos := (pumpTick s).pump.pos, lastOn := s.now }
      else { s.pump with po := ⟨true, false⟩, pos := (pumpTick s).pump.pos } } := by
  rw [pumpTick_of_enabled h]
  by_cases hon : SlotIsOn s.pump.level s.pump.pos.val <;> simp [hon, pumpPosition]

/-- While the driver stays enabled, tick `i` of a run emits slot `i` past the position it starts from. -/
theorem pumpOnTicks_eq_count {s : State} (h : s.pump.po.en = true) (n : Nat) :
    pumpOnTicks n s = n.count (fun i => SlotIsOn s.pump.level (s.pump.pos.val + i)) := by
  induction n generalizing s with
  | zero => simp [pumpOnTicks]
  | succ n ih =>
    have hpo := pumpTick_po_of_enabled h
    have later (i : Nat) : SlotIsOn s.pump.level ((pumpTick s).pump.pos.val + i) ↔
        SlotIsOn s.pump.level (s.pump.pos.val + (i + 1)) :=
      slotIsOn_congr (by
        rw [← Nat.add_assoc, Nat.add_right_comm]
        exact (pumpTick_pos_modEq h).add_right i)
    rw [pumpOnTicks, ih (by rw [hpo]), Nat.count_succ', hpo, Nat.add_comm]
    simp only [pumpTick_level, later, decide_eq_true_eq, Nat.add_zero]

/-! ### The obligations -/

/-- Settles O17: the on ticks are the on slots of a periodic pattern, counted over whole periods. -/
theorem pumpIsOnForItsShareOfWholePeriods : Obligations.PumpIsOnForItsShareOfWholePeriods := by
  intro n s hen
  rw [pumpTable_eq, pumpOnTicks_eq_count hen, count_add_mul_of_periodic (slotIsOn_periodic _),
    count_slotIsOn_period]

/-- Settles O14: the four clauses follow from the percent of the bucket. -/
theorem bucketRoundsToTheNearestTen : Obligations.BucketRoundsToTheNearestTen :=
  ⟨levelPercent_bucket, fun p => bucket_levelPercent (bucket p),
    fun _ _ h => levelPercent_bucket_mono h.le, fun _ h => levelPercent_bucket_near h⟩

/-- Settles O15: with the port open the command is the setter. -/
theorem pumpSetLevelStoresTheBucket : Obligations.PumpSetLevelStoresTheBucket := by
  intro p s hopen
  exact ⟨(fieldsWord_opcode_a _ _).symm, congrArg Host.Outcome.next (componentOp_on hopen _)⟩

/-- Settles O16, by the two cases of the enable bit. -/
theorem pumpTickEmitsTheTable : Obligations.PumpTickEmitsTheTable := by
  refine ⟨rfl, fun s => ⟨pumpTick s, pumpTick_of_disabled, fun hen => ?_, rfl, fun hopen => ?_⟩⟩
  · rw [pumpTable_eq]
    exact ⟨_, pumpTick_pos_of_enabled hen, pumpTick_of_enabled_cases hen⟩
  · exact congrArg Host.Outcome.next (componentOp_on hopen _)

end Sys2Proof.Machine
end

section
/-! PROOFS. HeaterPWM (spec/42_heater_pwm.md R135 to R137). The output of an enabled tick is the threshold
rule on a counter of period 100, so the on ticks of a full cycle are the places below the duty, wherever the
cycle starts. -/

namespace Sys2Proof.Machine
open Sys2Proof.Spec

/-! ### The threshold rule (R136) -/

/-- A position counted without end is on when its place in the 100-slot cycle is below the duty. -/
abbrev HeaterSlotIsOn (d : Fin 101) (i : Nat) : Prop := i % 100 < d.val

theorem heaterSlotIsOn_congr {d : Fin 101} {i j : Nat} (h : i ≡ j [MOD 100]) :
    HeaterSlotIsOn d i ↔ HeaterSlotIsOn d j := by
  rw [HeaterSlotIsOn, h]

theorem heaterSlotIsOn_periodic (d : Fin 101) : Function.Periodic (HeaterSlotIsOn d) 100 :=
  fun _ => propext (heaterSlotIsOn_congr Nat.add_modEq_right)

/-- Of the places of one cycle the first `d` are on and the remaining `100 - d` are off. -/
theorem count_heaterSlotIsOn_cycle (d : Fin 101) : Nat.count (HeaterSlotIsOn d) 100 = d.val := by
  have below : Nat.count (HeaterSlotIsOn d) d.val = d.val :=
    Nat.count_iff_forall.2 fun i hi => by unfold HeaterSlotIsOn; omega
  have above : Nat.count (fun i => HeaterSlotIsOn d (d.val + i)) (100 - d.val) = 0 :=
    Nat.count_iff_forall_not.2 fun i hi => by unfold HeaterSlotIsOn; omega
  have hsplit := Nat.count_add (HeaterSlotIsOn d) d.val (100 - d.val)
  rwa [Nat.add_sub_cancel' (by omega), below, above, Nat.add_zero] at hsplit

/-! ### An enabled tick -/

theorem heaterTick_po_of_enabled {s : State} (h : s.heater.po.en = true) :
    (heaterTick s).heater.po = ⟨true, decide (HeaterSlotIsOn s.heater.duty s.heater.pos.val)⟩ := by
  simp [h, HeaterSlotIsOn, Nat.mod_eq_of_lt s.heater.pos.isLt]

theorem heaterTick_pos_modEq (s : State) :
    (heaterTick s).heater.pos.val ≡ s.heater.pos.val + 1 [MOD 100] := by
  rw [heaterTick_heater]
  exact Nat.mod_modEq _ _

/-- While the heater stays enabled, tick `i` of a run is the slot `i` past the position it starts from. -/
theorem heaterOnTicks_eq_count {s : State} (h : s.heater.po.en = true) (n : Nat) :
    heaterOnTicks n s = n.count (fun i => HeaterSlotIsOn s.heater.duty (s.heater.pos.val + i)) := by
  induction n generalizing s with
  | zero => simp [heaterOnTicks]
  | succ n ih =>
    have hpo := heaterTick_po_of_enabled h
    have hduty : (heaterTick s).heater.duty = s.heater.duty := by rw [heaterTick_heater]
    have later (i : Nat) : HeaterSlotIsOn s.heater.duty ((heaterTick s).heater.pos.val + i) ↔
        HeaterSlotIsOn s.heater.duty (s.heater.pos.val + (i + 1)) :=
      heaterSlotIsOn_congr (by
        rw [← Nat.add_assoc, Nat.add_right_comm]
        exact (heaterTick_pos_modEq s).add_right i)
    rw [heaterOnTicks, ih (by rw [hpo]), Nat.count_succ', hpo, hduty, Nat.add_comm]
    simp only [later, decide_eq_true_eq, Nat.add_zero]

/-- A tick in any state, enabled or not, as R136 has it. -/
theorem heaterTick_eq (s : State) :
    heaterTick s = { s with heater :=
      { s.heater with
        pos := (heaterTick s).heater.pos
        po := ⟨s.heater.po.en,
          if s.heater.po.en = true ∧ s.heater.pos.val < s.heater.duty.val then true else false⟩ } } := by
  simp [heaterTick]

/-! ### The obligations -/

/-- Settles O20: the on ticks are the on slots of a pattern of period 100, counted over one period. -/
theorem heaterIsOnForItsDutyOfAFullCycle : Obligations.HeaterIsOnForItsDutyOfAFullCycle := by
  intro s hen
  rw [heaterOnTicks_eq_count hen, count_add_of_periodic (heaterSlotIsOn_periodic _),
    count_heaterSlotIsOn_cycle]

/-- Settles O18: with the port open the command is the setter, by the two ranges of its operand. -/
theorem heaterSetDutyRejectsAboveHundred : Obligations.HeaterSetDutyRejectsAboveHundred := by
  intro p s hopen
  have hexec : exec (.heaterSetDuty p) s = .next (heaterSetDuty p.toNat s) :=
    congrArg Host.Outcome.next (componentOp_on hopen _)
  refine ⟨(fieldsWord_opcode_a _ _).symm, fun d hd => ?_, fun habove => ?_⟩
  · rw [hexec, ← hd, heaterSetDuty_of_le (by omega)]
  · rw [hexec, heaterSetDuty_of_gt habove]

/-- Settles O19: the command with the port open is the tick, which is the threshold rule. -/
theorem heaterTickComparesAndAdvances : Obligations.HeaterTickComparesAndAdvances :=
  ⟨rfl, fun s => ⟨(heaterTick s).heater.pos, heaterTick s, by rw [heaterTick_heater]; rfl,
    heaterTick_eq s, rfl, fun hopen => congrArg Host.Outcome.next (componentOp_on hopen _)⟩⟩

end Sys2Proof.Machine
end

section
/-! PROOFS. PIDController (spec/43_pid.md R146 to R164). The steps of a cycle are the document's formulas, and
a pending override replaces whatever the steps before it came to, so its value stands through its cycles. -/

namespace Sys2Proof.Machine
open Sys2Proof.Spec

/-! ### The statements' vocabulary for readings, targets and words -/

theorem selectPv_eq_processValue (s : State) : selectPv s = processValue s.pid.mode s.sensors := by
  rw [selectPv_eq]
  cases s.pid.mode <;> rfl

/-- The machine tests for a target outside the interval, the rule for one inside it (R147). -/
theorem legalTarget_eq_targetAfter (c : Cfg) (t : Rat) : legalTarget c t = targetAfter c t := by
  have houtside : (t < c.pidMinTemp ∨ t ≥ c.pidMaxTemp) ↔ ¬(c.pidMinTemp ≤ t ∧ t < c.pidMaxTemp) := by
    rw [not_and_or, not_le, not_lt]
  rw [legalTarget, targetAfter, if_congr houtside rfl rfl, ite_not]

/-- The field `b` of a word that carries a flag (R82). -/
theorem flagField_eq_ofNat (v : Bool) : flagField v = BitVec.ofNat 8 (if v then 1 else 0) := by
  cases v <;> rfl

theorem levelPercent_eq_zero_iff (l : PumpLevel) : levelPercent l = 0 ↔ l = .l0 := by
  cases l <;> decide

/-! ### The steps of a cycle -/

/-- The dry-overheat clamp tests for a pump at 0 percent (R157). -/
theorem pidDryClamp_eq (pv : Rat) (s : State) (out : Rat) :
    pidDryClamp pv s out =
      if levelPercent s.pump.level = 0 ∧ pv ≥ s.pid.target + 1 / 2 then min out 5 else out := by
  simp only [levelPercent_eq_zero_iff]
  rfl

/-- An override is pending while its count is positive (R158). -/
theorem pidOverridden_eq (s : State) (out : Rat) :
    pidOverridden s out = if s.pid.ovrCount.toNat > 0 then s.pid.ovrValue else out := by
  have hpending : s.pid.ovrCount.toNat > 0 ↔ ¬ s.pid.ovrCount = 0 := by bv_omega
  rw [if_congr hpending rfl rfl, ite_not, pidOverridden]

/-- The override count goes down to 0 and stays there (R158). -/
theorem pidWriteBack_ovrCount (pv : Rat) (s : State) :
    (pidWriteBack pv s).ovrCount = BitVec.ofNat 32 (s.pid.ovrCount.toNat - 1) := by
  change (if s.pid.ovrCount = 0 then 0 else s.pid.ovrCount - 1) = _
  split <;> bv_omega

theorem pidClamp_of_mem {x : Rat} (h0 : 0 ≤ x) (h1 : x ≤ 100) : pidClamp x = x := by
  simp [pidClamp, h0, h1]

/-- All that a cycle writes, its controller written out by fields and its duty by its floor. -/
theorem pidCycle_of_enabled_eq {s : State} (hc : s.cfg.Legal) (hen : s.pid.en = true) :
    ∃ duty : Fin 101,
      (duty.val : Int) = (pidThreshold s.cfg (pidClamped (selectPv s) s)).floor ∧
      pidCycle s = { s with
        heater := { s.heater with duty := duty }
        pid := { s.pid with
          pv2 := s.pid.pv1, pv1 := selectPv s, u1 := pidClamped (selectPv s) s
          p := pidShareP (selectPv s) s, i := pidShareI (selectPv s) s
          d := pidShareD (selectPv s) s, u := pidRaw (selectPv s) s
          ovrCount := BitVec.ofNat 32 (s.pid.ovrCount.toNat - 1) }
        tele := ⟨pidShareP (selectPv s) s, pidShareI (selectPv s) s, pidShareD (selectPv s) s,
          pidRaw (selectPv s) s, duty, s.pump.level, s.tele.seq + 1⟩ } := by
  obtain ⟨hfloor, hle⟩ := pidDuty_spec hc (selectPv s)
  refine ⟨⟨pidDuty (selectPv s) s, by omega⟩, hfloor, ?_⟩
  rw [pidCycle_of_enabled hen, pidCycleAt_eq hc, ← pidWriteBack_ovrCount (selectPv s)]
  rfl

theorem exec_pidCycle_of_open {s : State} (h : s.cfg.componentPort = true) :
    exec .pidCycle s = .next (pidCycle s) :=
  congrArg Host.Outcome.next (componentOp_on h _)

/-! ### A pending override (R164 c) -/

/-- An enabled controller with legal parameters `c` and `n` cycles of an override of `v` still to come. -/
structure OverridePending (c : Cfg) (v : Rat) (n : Nat) (s : State) : Prop where
  params : s.cfg = c
  enabled : s.pid.en = true
  value : s.pid.ovrValue = v
  count : s.pid.ovrCount.toNat = n

section Override
variable {c : Cfg} {v : Rat} {n : Nat} {s : State}

/-- A pending override is the output of the cycle, whatever the sensors read. -/
theorem OverridePending.pidClamped_eq (h : OverridePending c v n s) (hn : 0 < n) (h0 : 0 ≤ v)
    (h1 : v ≤ 100) (pv : Rat) : pidClamped pv s = v := by
  rw [pidClamped, pidOverridden_eq, if_pos (h.count ▸ hn), h.value, pidClamp_of_mem h0 h1]

theorem OverridePending.withSensors (h : OverridePending c v n s) (x : Sensors) :
    OverridePending c v n { s with sensors := x } := ⟨h.params, h.enabled, h.value, h.count⟩

/-- Every cycle uses up one of the override's cycles; without one left it stays at none. -/
theorem OverridePending.pidCycle (h : OverridePending c v n s) (hc : c.Legal) :
    OverridePending c v (n - 1) (pidCycle s) := by
  obtain ⟨duty, -, hcycle⟩ := pidCycle_of_enabled_eq (h.params ▸ hc) h.enabled
  have hcount : (BitVec.ofNat 32 (s.pid.ovrCount.toNat - 1)).toNat = n - 1 := by
    have := h.count
    bv_omega
  rw [hcycle]
  exact ⟨h.params, h.enabled, h.value, hcount⟩

theorem OverridePending.pidCycles (hc : c.Legal) (xs : List Sensors) (h : OverridePending c v n s) :
    OverridePending c v (n - xs.length) (pidCycles xs s) := by
  induction xs generalizing n s with
  | nil => exact h
  | cons x xs ih =>
    rw [List.length_cons, Nat.add_comm, ← Nat.sub_sub]
    exact ih ((h.withSensors x).pidCycle hc)

end Override

theorem pidCycles_concat (xs : List Sensors) (x : Sensors) (s : State) :
    pidCycles (xs ++ [x]) s = pidCycle { pidCycles xs s with sensors := x } := by
  induction xs generalizing s with
  | nil => rfl
  | cons y xs ih => exact ih _

/-! ### The obligations -/

/-- Settles O26: the override is still pending at the last cycle of the list, by induction on the cycles
before it, and the last cycle outputs it. -/
theorem pidOverrideHoldsForItsCycles : Obligations.PidOverrideHoldsForItsCycles := by
  intro s v xs hc hen hv h0 h1 hne hlen
  obtain ⟨ys, x, rfl⟩ := List.eq_nil_or_concat' xs |>.resolve_left hne
  rw [List.length_append, List.length_singleton] at hlen ⊢
  have hlast : OverridePending s.cfg v (s.pid.ovrCount.toNat - ys.length)
      { pidCycles ys s with sensors := x } :=
    (OverridePending.pidCycles hc ys ⟨rfl, hen, hv, rfl⟩).withSensors x
  have hout := hlast.pidClamped_eq (by omega) h0 h1
  have hafter := hlast.pidCycle hc
  obtain ⟨duty, hfloor, hcycle⟩ := pidCycle_of_enabled_eq (hlast.params ▸ hc) hlast.enabled
  rw [hout, hlast.params] at hfloor
  rw [pidCycles_concat]
  refine ⟨?_, ?_, hafter.count.trans (Nat.sub_sub _ _ _)⟩
  · rw [hcycle]
    exact hout _
  · rw [hcycle]
    exact hfloor

/-- Settles O25: each value of the statement is the machine's step of that name, one after another. -/
theorem pidCycleComputesTheNineSteps : Obligations.PidCycleComputesTheNineSteps := by
  refine ⟨rfl, fun s hc => ⟨fun hdis => ?_, fun hen => ?_⟩⟩
  · have hstay := pidCycle_of_disabled hdis
    exact ⟨hstay, fun hopen => by rw [exec_pidCycle_of_open hopen, hstay]⟩
  · intro pv e kp ts p i d u a b out uc ut hpv he hkp hp hts hi hd hu ha hb hout huc hut
    have hP : p = pidShareP pv s := by rw [hp, hkp]; rfl
    have hI : i = pidShareI pv s := by rw [hi, hts, he]; rfl
    have hD : d = pidShareD pv s := by rw [hd, hts]; rfl
    have hU : u = pidRaw pv s := by rw [hu, hP, hI, hD]; rfl
    have hA : a = pidFastHeat pv s u := by rw [ha, he]; rfl
    have hB : b = pidDryClamp pv s a := by rw [hb, pidDryClamp_eq]
    have hOut : out = pidOverridden s b := by rw [hout, pidOverridden_eq]
    have hUc : uc = pidClamped pv s := by rw [huc, hOut, hB, hA, hU]; rfl
    have hUt : ut = pidThreshold s.cfg uc := hut
    rw [← selectPv_eq_processValue] at hpv
    obtain ⟨duty, hfloor, hcycle⟩ := pidCycle_of_enabled_eq hc hen
    rw [← hpv, ← hUc, ← hUt] at hfloor
    rw [← hpv, ← hP, ← hI, ← hD, ← hU, ← hUc] at hcycle
    exact ⟨duty, _, hfloor, rfl, hcycle, fun hopen => by rw [exec_pidCycle_of_open hopen, hcycle]⟩

/-- Settles O21: with the port open the command is the procedure, on the reading of the stored mode. -/
theorem pidStartResetsTheHistory : Obligations.PidStartResetsTheHistory := by
  intro s hopen
  have hexec : exec .pidStart s = .next (pidStart s) := congrArg Host.Outcome.next (componentOp_on hopen _)
  exact ⟨rfl, by rw [hexec, pidStart_eq, selectPv_eq_processValue]⟩

/-- Settles O22: with the port open the command is the procedure. -/
theorem pidStopKeepsTheHistory : Obligations.PidStopKeepsTheHistory := by
  intro s hopen
  have hexec : exec .pidStop s = .next (pidStop s) := congrArg Host.Outcome.next (componentOp_on hopen _)
  exact ⟨rfl, by rw [hexec, pidStop_eq]⟩

/-- Settles O23: with the port open the command stores its mode and the target that the interval leaves. -/
theorem pidSetTargetReplacesIllegalTargets : Obligations.PidSetTargetReplacesIllegalTargets := by
  intro w v s hopen
  have hexec : exec (.pidSetTarget w v) s = .next (pidSetTarget (ofQ16 w) (pidModeOf v) s) :=
    congrArg Host.Outcome.next (componentOp_on hopen _)
  refine ⟨?_, ?_⟩
  · rw [fieldsWord, ← flagField_eq_ofNat]
    rfl
  · rw [hexec, pidSetTarget, legalTarget_eq_targetAfter, pidModeOf]

/-- Settles O24: with the port open the command writes value and count, without a test of the enable. -/
theorem pidOverrideReplacesThePendingOne : Obligations.PidOverrideReplacesThePendingOne := by
  intro w n s hopen
  exact ⟨rfl, congrArg Host.Outcome.next (componentOp_on hopen (pidOverride (ofQ16 w) n s))⟩

end Sys2Proof.Machine
end

section
/-! PROOFS. ShotSequencer (spec/44_shot.md R176 to R184). A deadline is stored exactly where it fits the clock,
and the ramp interval and the shot time are exact integers; what a start, a fire or a stop does is then the
equation of the procedure the sequencer's state selects. -/

namespace Sys2Proof.Machine
open Sys2Proof.Spec

/-! ### Words, arguments and exact results -/

/-- A word of format `SH` (R82). -/
theorem fieldsWord_percents (op : Nat) (a b : Percent) (f r z : Millis) :
    fieldsWord op a.toNat b.toNat 0 f r z = ⟨BitVec.ofNat 8 op, a, b, 0, f, r, z⟩ := by
  simp [fieldsWord]

/-- A word of format `PV` (R82). -/
theorem fieldsWord_percent_flag (op : Nat) (p : Percent) (v : Bool) :
    fieldsWord op p.toNat (if v then 1 else 0) 0 0 0 0 =
      ⟨BitVec.ofNat 8 op, p, flagField v, 0, 0, 0, 0⟩ := by
  simp [fieldsWord, flagField_eq_ofNat]

/-- The machine tests for arguments within the bounds, the rule for arguments outside them (R176). -/
theorem shotArgsOut_iff {f r z : Millis} {a b : Percent} :
    ShotArgsOut f r z a b ↔ shotArgsLegal f r z a b = false := by
  rw [← Bool.not_eq_true, shotArgsLegal_iff, ShotArgsOut]
  omega

/-- A timer set to a narrowed deadline is armed for it, whichever free value an unfit one would take. -/
theorem armedAt_narrow (x : Int) (s t : State) :
    ArmedAt x s (narrow 64 x t) (if fits 64 x then s.freeIdx else s.freeIdx + 1) :=
  fun ⟨h0, h1⟩ => ⟨narrow_toNat h0 h1 t, freeIdx_of_fits h0 h1 _⟩

theorem spend_eq (w : Nat) (x : Int) (s : State) :
    spend w x s = { s with freeIdx := if fits w x then s.freeIdx else s.freeIdx + 1 } := by
  unfold spend
  split <;> rfl

/-! ### The ramp interval (R177) -/

/-- The quotient `q` is the whole number with `q - 1/2 ≤ 10 * ramp / n < q + 1/2`. -/
theorem rampQuotient_bounds {n : Int} (hn : 0 < n) (ramp : Int) :
    (2 * rampQuotient ramp n - 1) * n ≤ 20 * ramp ∧ 20 * ramp < (2 * rampQuotient ramp n + 1) * n := by
  have hq : rampQuotient ramp n = (20 * ramp + n) / (2 * n) :=
    Int.fdiv_eq_ediv_of_nonneg _ (by omega)
  have hlow : rampQuotient ramp n * (2 * n) ≤ 20 * ramp + n :=
    hq ▸ Int.ediv_mul_le _ (by omega)
  have hhigh : 20 * ramp + n < (rampQuotient ramp n + 1) * (2 * n) :=
    hq ▸ Int.lt_ediv_add_one_mul_self _ (by omega)
  constructor <;> linarith

theorem rampInterval_of_eq {s : State} (h : s.shot.stopPct = s.shot.startPct) :
    rampInterval s = s.cfg.shotRampDiv0Ms.toNat := if_pos h

theorem rampInterval_of_ne {s : State} (h : s.shot.stopPct ≠ s.shot.startPct) :
    rampInterval s =
      rampQuotient s.shot.rampMs.toNat ((s.shot.stopPct.toNat : Int) - s.shot.startPct.toNat) :=
  if_neg h

/-! ### Start (R176) -/

section Start
variable {s : State} {f r z : Millis} {a b : Percent}

theorem shotStart_of_active (h : s.shot.active = true) : shotStart f r z a b s = s := if_pos h

theorem shotStart_of_out (h : s.shot.active = false) (hout : ShotArgsOut f r z a b) :
    shotStart f r z a b s = raise .cfgReject s := by
  simp [shotStart, h, shotArgsOut_iff.1 hout]

theorem shotStart_of_accepted (h : s.shot.active = false) (hin : ¬ ShotArgsOut f r z a b) :
    shotStart f r z a b s = shotAccept f r z a b s := by
  have hlegal : shotArgsLegal f r z a b = true := by simpa [shotArgsOut_iff] using hin
  simp [shotStart, h, hlegal]

end Start

/-! ### The timer fires (R178 to R182) -/

section Fires
variable {s : State}

/-- A fire that finds no stage to leave is done once the timer is disarmed. -/
theorem shotTimerFire_of_quiet
    (h : s.shot.active = false ∨ s.shot.stage = .idle ∨ s.shot.stage = .full) :
    shotTimerFire s = shotDisarm s := by
  rcases h with h | h | h <;> simp [shotTimerFire, shotFireStage, h]

theorem shotTimerFire_of_initFill (ha : s.shot.active = true) (hg : s.shot.stage = .initFill) :
    shotTimerFire s = shotFireInitFill (shotDisarm s) := by
  simp [shotTimerFire, shotFireStage, ha, hg]

theorem shotTimerFire_of_ramp (ha : s.shot.active = true) (hg : s.shot.stage = .ramp) :
    shotTimerFire s = shotFireRamp (shotDisarm s) := by
  simp [shotTimerFire, shotFireStage, ha, hg]

theorem shotTimerFire_of_pause (ha : s.shot.active = true) (hg : s.shot.stage = .pause) :
    shotTimerFire s = shotEnterFull (shotDisarm s) := by
  simp [shotTimerFire, shotFireStage, ha, hg]

/-- A RAMP fire that sets the pump (R179). -/
theorem shotTimerFire_of_rampStep (ha : s.shot.active = true) (hg : s.shot.stage = .ramp)
    (hstop : s.shot.curPct.toNat ≤ s.shot.stopPct.toNat) (htop : s.shot.curPct.toNat < 100) :
    shotTimerFire s = shotRampStep (shotDisarm s) :=
  (shotTimerFire_of_ramp ha hg).trans
    (if_neg (not_or_intro (not_lt_of_ge hstop) (not_le_of_gt htop)))

/-- The RAMP fire that ends the ramp (R179, R180). -/
theorem shotTimerFire_of_rampEnd (ha : s.shot.active = true) (hg : s.shot.stage = .ramp)
    (hend : s.shot.curPct.toNat > s.shot.stopPct.toNat ∨ s.shot.curPct.toNat ≥ 100) :
    shotTimerFire s = shotAfterRamp (shotDisarm s) :=
  (shotTimerFire_of_ramp ha hg).trans (if_pos hend)

theorem shotAfterRamp_of_no_pause (h : s.shot.pauseMs.toNat = 0) : shotAfterRamp s = shotEnterFull s :=
  if_neg h.not_gt

/-- The PID registers after a ramp step: the override is issued past the first step only (R179). -/
theorem shotStepOverride_pid_eq (s : State) :
    (shotStepOverride s).pid =
      if s.shot.curPct.toNat > s.shot.startPct.toNat + s.cfg.rampFirstOffset then
        { s.pid with ovrValue := 100, ovrCount := 3#32 } else s.pid :=
  apply_ite State.pid _ _ _

end Fires

/-! ### The shot time (R184) -/

section ShotTime
variable {s : State}

/-- `Q_SHOT_TIME` sends the shot time from the state that working it out leaves (R245). -/
theorem exec_qShotTime_of_getShotTime {t : State} {w : BitVec 64} (h : getShotTime s = (t, w)) :
    exec .qShotTime s = .next { t with rsp := some (.word w) } := by
  change Host.Outcome.next (respond (.word (getShotTime s).2) (getShotTime s).1) = _
  rw [h, respond]

theorem getShotTime_of_unstarted (h : s.shot.startTime = 0) : getShotTime s = (s, 0) := if_pos h

theorem getShotTime_of_running (hstart : s.shot.startTime ≠ 0) (hstop : s.shot.stopTime = 0) :
    getShotTime s = (spend 64 (shotRunning s) s, narrow 64 (shotRunning s) s) := by
  rw [getShotTime, if_neg hstart, if_pos hstop]

theorem getShotTime_of_stopped (hstart : s.shot.startTime ≠ 0) (hstop : s.shot.stopTime ≠ 0)
    (h : s.shot.startTime.toNat ≤ s.shot.stopTime.toNat) :
    getShotTime s = (s, s.shot.stopTime - s.shot.startTime) := by
  rw [getShotTime, if_neg hstart, if_neg hstop, if_neg (by omega)]

theorem getShotTime_of_disordered (hstart : s.shot.startTime ≠ 0) (hstop : s.shot.stopTime ≠ 0)
    (h : s.shot.stopTime.toNat < s.shot.startTime.toNat) :
    getShotTime s = (raise .shotTime s, 0) := by
  rw [getShotTime, if_neg hstart, if_neg hstop, if_pos h]

/-- A start stamp in the past makes the elapsed time a value of the clock's width. -/
theorem shotRunning_fits (h : s.shot.startTime.toNat ≤ s.now.toNat) :
    0 ≤ shotRunning s ∧ shotRunning s < 2 ^ 64 := by
  have := s.now.isLt
  unfold shotRunning
  omega

end ShotTime

/-! ### The obligations -/

/-- Settles O27: with the port open the command is the start, whose three cases are the statement's. -/
theorem shotStartValidatesThenStarts : Obligations.ShotStartValidatesThenStarts := by
  intro f r z a b s hopen
  have hexec : exec (.shotStart f r z a b) s = .next (shotStart f r z a b s) :=
    congrArg Host.Outcome.next (componentOp_on hopen _)
  rw [hexec]
  refine ⟨(fieldsWord_percents _ a b f r z).symm, fun hactive => ?_, fun hidle hout => ?_,
    fun hidle hin => ?_⟩
  · rw [shotStart_of_active hactive]
  · rw [shotStart_of_out hidle hout]
    rfl
  · rw [shotStart_of_accepted hidle hin, shotAccept_eq]
    exact ⟨_, _, armedAt_narrow _ s s, rfl⟩

/-- Settles O28, by the two cases of the interval; for unequal percents it is the rounded quotient. -/
theorem rampIntervalRoundsToTheNearest : Obligations.RampIntervalRoundsToTheNearest := by
  refine fun s => ⟨rampInterval_of_eq, fun n hn hpos => ?_⟩
  have hne : s.shot.stopPct ≠ s.shot.startPct := fun heq => by
    rw [heq] at hn
    omega
  rw [rampInterval_of_ne hne, ← hn]
  exact rampQuotient_bounds hpos _

/-- Settles O29: the start percent and the offset fit the ramp position, for the offset is at most 10. -/
theorem initFillFireEntersRamp : Obligations.InitFillFireEntersRamp := by
  refine fun s => ⟨fun hc ha hg hpct => ?_, shotTimerFire_of_quiet⟩
  obtain ⟨c, d, k, hfire, hfit⟩ := shotFireInitFill_eq (shotDisarm s)
  have hoffset := hc.rampOffset
  obtain ⟨hcur, harmed⟩ := hfit (show s.shot.startPct.toNat + s.cfg.rampFirstOffset < 256 by omega)
  refine ⟨d, k, fun ⟨h0, h1⟩ => harmed h0 h1, ?_⟩
  rw [shotTimerFire_of_initFill ha hg, hfire, (BitVec.toNat_eq_nat.1 hcur).2]
  rfl

/-- Settles O30: a position below 100 leaves room for the next ten percent. -/
theorem rampFireStepsThePump : Obligations.RampFireStepsThePump := by
  intro s ha hg hstop htop
  obtain ⟨c, d, k, hfire, hfit⟩ := shotRampStep_eq (shotDisarm s)
  obtain ⟨hcur, harmed⟩ := hfit (show s.shot.curPct.toNat + 10 < 256 by omega)
  refine ⟨d, k, fun ⟨h0, h1⟩ => harmed h0 h1, ?_⟩
  rw [shotTimerFire_of_rampStep ha hg hstop htop, hfire, (BitVec.toNat_eq_nat.1 hcur).2,
    shotStepOverride_pid_eq]
  rfl

/-- Settles O31, by the two outcomes of the ramp's end; the PAUSE fire is the second of them. -/
theorem rampEndsInPauseOrFull : Obligations.RampEndsInPauseOrFull := by
  refine fun s ha => ⟨fun hg hend hpause => ?_, fun hfull => ?_⟩
  · rw [shotTimerFire_of_rampEnd ha hg hend]
    rcases shotAfterRamp_cases (shotDisarm s) with ⟨-, hafter⟩ | ⟨hnone, -⟩
    · rw [hafter]
      exact ⟨_, _, armedAt_narrow _ s (shotDisarm s), rfl⟩
    · exact absurd hnone hpause.ne'
  · have hfire : shotTimerFire s = shotEnterFull (shotDisarm s) := by
      rcases hfull with hg | ⟨hg, hnone, hend⟩
      · exact shotTimerFire_of_pause ha hg
      · exact (shotTimerFire_of_rampEnd ha hg hend).trans (shotAfterRamp_of_no_pause hnone)
    rw [hfire, shotEnterFull_eq]
    rfl

/-- Settles O32: with the port open the command is the stop, by the two values of the active bit. -/
theorem shotStopDisarmsAndRests : Obligations.ShotStopDisarmsAndRests := by
  intro p v s hopen
  have hexec : exec (.shotStop p v) s = .next (shotStop p v s) :=
    congrArg Host.Outcome.next (componentOp_on hopen _)
  rw [hexec, shotStop_eq]
  refine ⟨(fieldsWord_percent_flag _ p v).symm, fun hidle => ?_, fun hactive => ?_⟩
  · simp [hidle]
  · rw [if_pos hactive]
    rfl

/-- Settles O33: each case of the statement is a case of the shot time. -/
theorem shotTimeIsAnsweredByCase : Obligations.ShotTimeIsAnsweredByCase := by
  refine ⟨rfl, fun s => ⟨fun hstart => ?_, fun hstart hstop hpast => ?_, fun hstart hstop _ => ?_,
    fun hstart hstop hle => ?_, fun hstart hstop hlt => ?_⟩⟩
  · exact exec_qShotTime_of_getShotTime (getShotTime_of_unstarted hstart)
  · obtain ⟨h0, h1⟩ := shotRunning_fits hpast
    have htime := getShotTime_of_running hstart hstop
    rw [spend_of_fits h0 h1] at htime
    have hword := narrow_toNat h0 h1 s
    exact ⟨_, by unfold shotRunning at hword ⊢; omega, exec_qShotTime_of_getShotTime htime⟩
  · have htime := getShotTime_of_running hstart hstop
    rw [spend_eq] at htime
    exact ⟨narrow 64 (shotRunning s) s, if fits 64 (shotRunning s) then s.freeIdx else s.freeIdx + 1,
      exec_qShotTime_of_getShotTime htime⟩
  · exact ⟨_, BitVec.toNat_sub_of_le hle,
      exec_qShotTime_of_getShotTime (getShotTime_of_stopped hstart hstop hle)⟩
  · exact exec_qShotTime_of_getShotTime (getShotTime_of_disordered hstart hstop hlt)

end Sys2Proof.Machine
end

section
/-! PROOFS. PreheatSequencer (spec/45_preheat.md R200 to R206). A start, a fire and a stop are the equations of
the procedure the stage selects. -/

namespace Sys2Proof.Machine
open Sys2Proof.Spec

/-! ### Words and arguments -/

/-- A word of format `PH` (R82). -/
theorem fieldsWord_durations (op : Nat) (a b c : Millis) :
    fieldsWord op 0 0 0 a b c = ⟨BitVec.ofNat 8 op, 0, 0, 0, a, b, c⟩ := rfl

/-- The machine tests for arguments within the bounds, the rule for arguments outside them (R200). -/
theorem preArgsOut_iff {a b c : Millis} : PreArgsOut a b c ↔ preArgsLegal a b c = false := by
  rw [← Bool.not_eq_true, preArgsLegal_iff, PreArgsOut]
  omega

/-! ### The obligations -/

/-- Settles O34: with the port open the command is the start, whose three cases are the statement's. -/
theorem preheatStartValidatesThenStarts : Obligations.PreheatStartValidatesThenStarts := by
  intro a b c s hopen
  have hexec : exec (.preheatStart a b c) s = .next (preheatStart a b c s) :=
    congrArg Host.Outcome.next (componentOp_on hopen _)
  rw [hexec]
  refine ⟨(fieldsWord_durations _ a b c).symm, ?_⟩
  rcases preheatStart_cases a b c s with ⟨hg, e⟩ | ⟨hg, hlegal, e⟩ | ⟨hg, hlegal, e⟩ <;>
    rw [e, preArgsOut_iff]
  · exact ⟨fun _ => rfl, fun hoff => absurd hoff hg, fun hoff => absurd hoff hg⟩
  · refine ⟨fun hon => absurd hg hon, fun _ hout => absurd hlegal (by simp [hout]), fun _ _ => ?_⟩
    rw [preheatEnterPumpOn_eq]
    exact ⟨_, _, armedAt_narrow _ s (preLoad a b c s), rfl⟩
  · exact ⟨fun hon => absurd hg hon, fun _ _ => rfl, fun _ hin => absurd hlegal hin⟩

/-- Settles O35: the fire disarms and runs the arm of its stage. -/
theorem preheatFiresCycleTheStages : Obligations.PreheatFiresCycleTheStages := by
  intro s
  rcases preheatTimerFire_cases s with ⟨hg, e⟩ | ⟨hg, e⟩ | ⟨hg, e⟩ | ⟨hg, e⟩ <;> rw [e, hg]
  · rw [preFirePumpOn_eq]
    exact ⟨fun _ => ⟨_, _, armedAt_narrow _ s (preDisarm s), rfl⟩, nofun, nofun, nofun⟩
  · rw [preFireHold_eq]
    exact ⟨nofun, fun _ => ⟨_, _, armedAt_narrow _ s (preDisarm s), rfl⟩, nofun, nofun⟩
  · rw [preheatEnterPumpOn_eq]
    exact ⟨nofun, nofun, fun _ => ⟨_, _, armedAt_narrow _ s (preDisarm s), rfl⟩, nofun⟩
  · exact ⟨nofun, nofun, nofun, fun _ => rfl⟩

/-- Settles O36: with the port open the command is the stop, which tests no stage. -/
theorem preheatStopIsUnconditional : Obligations.PreheatStopIsUnconditional := by
  intro p v s hopen
  have hexec : exec (.preheatStop p v) s = .next (preheatStop p v s) :=
    congrArg Host.Outcome.next (componentOp_on hopen _)
  rw [hexec, preheatStop_eq]
  exact ⟨(fieldsWord_percent_flag _ p v).symm, rfl⟩

end Sys2Proof.Machine
end

section
/-! PROOFS. The cycle of a preheat alone (spec/45_preheat.md R199, R207). The run is followed from phase to
phase: the ticks and the PID period of a millisecond leave a phase alone, its timer's fire enters the next,
and a HOLD of 0 ms is left in the millisecond that enters it. -/

namespace Sys2Proof.Machine
open Sys2Proof.Spec

/-! ### Runs of `TICK_MS` -/

/-- One more `TICK_MS` after a run of them. -/
theorem ticks_concat {n : Nat} {s t u : State} (h : Ticks n s t) (hu : exec .tickMs t = .next u) :
    Ticks (n + 1) s u := by
  induction n generalizing s with
  | zero => exact ⟨u, h ▸ hu, rfl⟩
  | succ n ih =>
    obtain ⟨v, hv, hrun⟩ := h
    exact ⟨v, hv, ih hrun⟩

/-! ### The phases of a preheat (R199) -/

/-- A row of the table of R199 on the clock: a stage, when its timer ends it (in milliseconds from the start
of the run), and the two outputs during it. -/
structure PreheatPhase where
  stage : PreStage
  ends : Nat
  level : PumpLevel
  valve : PhaseOutput

section Phases
variable {s t : State} {f g : PreheatPhase} {m n k : Nat}

/-- `t`, reached `m` milliseconds after `s`, is in the phase `f` of the preheat of `s`; the Shot registers and
the durations are those of `s`. -/
structure InPhase (s : State) (f : PreheatPhase) (m : Nat) (t : State) : Prop where
  elapsed : t.now.toNat = s.now.toNat + m
  shot : t.shot = s.shot
  pre : ∃ d : Time, d.toNat = s.now.toNat + f.ends ∧
    t.pre = ⟨f.stage, s.pre.pumpMs, s.pre.stopPumpMs, s.pre.pauseMs, ⟨true, d⟩⟩
  level : t.pump.level = f.level
  valve : t.valve = f.valve

/-- `m` milliseconds after `s` the clock is further from its end than any duration. -/
def RoomAt (s : State) (m : Nat) : Prop := s.now.toNat + m + 2 ^ 32 < 2 ^ 64

theorem RoomAt.mono (h : RoomAt s n) (hmn : m ≤ n) : RoomAt s m := by
  unfold RoomAt at *
  omega

/-- The phase that the fire of the timer at `m` enters (R203 to R205). -/
def PreheatPhase.next (s : State) (m : Nat) (f : PreheatPhase) : PreheatPhase :=
  match f.stage with
  | .pumpOn => ⟨.hold, m + s.pre.stopPumpMs.toNat, .l0, ⟨f.valve.en, false⟩⟩
  | .hold => ⟨.pause, m + s.pre.pauseMs.toNat, .l0, ⟨f.valve.en, false⟩⟩
  | .pause => ⟨.pumpOn, m + s.pre.pumpMs.toNat, .l100, valveAfter true f.valve⟩
  | .off => f

/-- A phase entered at `m` ends exactly its duration later, for the deadline fits the clock. -/
theorem InPhase.enter (h : InPhase s f m t) (hroom : RoomAt s m) (g : PreStage) (l : PumpLevel)
    (v : PhaseOutput) {delta : Millis} {d : Time} {j : Nat}
    (harmed : ArmedAt (t.now.toNat + delta.toNat) t d j) :
    InPhase s ⟨g, m + delta.toNat, l, v⟩ m { t with
      valve := v, pump := { t.pump with level := l }, freeIdx := j
      pre := ⟨g, s.pre.pumpMs, s.pre.stopPumpMs, s.pre.pauseMs, ⟨true, d⟩⟩ } := by
  have hdelta := delta.isLt
  have helapsed := h.elapsed
  unfold RoomAt at hroom
  obtain ⟨hd, -⟩ := harmed ⟨by omega, by omega⟩
  have hends : d.toNat = s.now.toNat + (m + delta.toNat) := by omega
  exact ⟨helapsed, h.shot, ⟨d, hends, rfl⟩, rfl, rfl⟩

/-- A fire enters the next phase. -/
theorem InPhase.fire (h : InPhase s f m t) (hroom : RoomAt s m) (hon : f.stage ≠ .off) :
    InPhase s (f.next s m) m (preheatTimerFire t) := by
  obtain ⟨d, -, hpre⟩ := h.pre
  obtain ⟨hpumpOn, hhold, hpause, -⟩ := preheatFiresCycleTheStages t
  rw [hpre, h.valve] at hpumpOn hhold hpause
  unfold PreheatPhase.next
  cases hg : f.stage with
  | pumpOn =>
    obtain ⟨d, j, harmed, e⟩ := hpumpOn hg
    exact e ▸ h.enter hroom .hold .l0 _ harmed
  | hold =>
    obtain ⟨d, j, harmed, e⟩ := hhold hg
    exact e ▸ h.enter hroom .pause .l0 _ harmed
  | pause =>
    obtain ⟨d, j, harmed, e⟩ := hpause hg
    exact e ▸ h.enter hroom .pumpOn .l100 _ harmed
  | off => exact absurd hg hon

/-- The Preheat timer is due exactly from the end of the phase on. -/
theorem InPhase.preDue_iff (h : InPhase s f m t) : preDue t = true ↔ f.ends ≤ m := by
  obtain ⟨helapsed, -, ⟨d, hd, hpre⟩, -, -⟩ := h
  rw [Machine.preDue_iff, hpre, helapsed]
  simp only [true_and]
  omega

theorem InPhase.shotDue_false (h : InPhase s f m t) (hquiet : s.shot.timer.armed = false) :
    shotDue t = false := by
  simp [shotDue, h.shot, hquiet]

/-! ### The timers of a millisecond (R242) -/

/-- The loop of R242 with at most `n` fires, `m` milliseconds after `s`, leads from the phase `f` to `g`. -/
def SettlesIn (s : State) (n m : Nat) (f g : PreheatPhase) : Prop :=
  ∀ t, InPhase s f m t → ∃ u, runDueTimers n t = some u ∧ InPhase s g m u

/-- Before its end a phase stays. -/
theorem settlesIn_of_lt (hquiet : s.shot.timer.armed = false) (h : m < f.ends) :
    SettlesIn s n m f f := fun t ht =>
  have hnot : preDue t = false := Bool.eq_false_iff.2 fun hd => h.not_ge (ht.preDue_iff.1 hd)
  ⟨t, runDueTimers_of_quiet (ht.shotDue_false hquiet) hnot n, ht⟩

/-- At its end a phase is left by a fire. -/
theorem settlesIn_of_ends (hquiet : s.shot.timer.armed = false) (hroom : RoomAt s m)
    (hon : f.stage ≠ .off) (h : f.ends ≤ m) (hnext : SettlesIn s n m (f.next s m) g) :
    SettlesIn s (n + 1) m f g := fun t ht => by
  rw [runDueTimers_of_preDue (ht.shotDue_false hquiet) (ht.preDue_iff.2 h)]
  exact hnext _ (ht.fire hroom hon)

/-- The ticks at the start of a millisecond leave the phase alone. -/
theorem InPhase.ticks (h : InPhase s f m t) (hroom : RoomAt s (m + 1)) :
    InPhase s f (m + 1) (runTicks (advanceClock t)) := by
  obtain ⟨helapsed, hshot, hpre, hlevel, hvalve⟩ := h
  have hclock : (advanceClock t).now.toNat = t.now.toNat + 1 :=
    advanceClock_now (by unfold RoomAt at hroom; omega)
  exact ⟨by simp only [runTicks_keeps, hclock]; omega, by simpa, by simpa, by simpa, by simpa⟩

/-- The PID period at the end of a millisecond leaves the phase alone. -/
theorem InPhase.period (h : InPhase s f m t) : InPhase s f m (runPidPeriod t) := by
  obtain ⟨helapsed, hshot, hpre, hlevel, hvalve⟩ := h
  constructor <;> simpa

/-! ### The phases along a run -/

/-- `m` successive `TICK_MS` take `s` to a state of phase `f`. -/
def Reaches (s : State) (m : Nat) (f : PreheatPhase) : Prop := ∃ t, Ticks m s t ∧ InPhase s f m t

/-- A `TICK_MS` leads to the phase its timers settle in. -/
theorem Reaches.tick (h : Reaches s m f) (hroom : RoomAt s (m + 1))
    (hsettle : SettlesIn s timerFires (m + 1) f g) : Reaches s (m + 1) g := by
  obtain ⟨t, hrun, ht⟩ := h
  obtain ⟨u, hu, hug⟩ := hsettle _ (ht.ticks hroom)
  have hclock : t.now.toNat + 1 < 2 ^ 64 := by
    have := ht.elapsed
    unfold RoomAt at hroom
    omega
  exact ⟨_, ticks_concat hrun (execTickMs_of_settled hclock hu), hug.period⟩

/-- A phase lasts until the millisecond of its end. -/
theorem Reaches.wait (hquiet : s.shot.timer.armed = false) (h : Reaches s m f) (hmn : m ≤ n)
    (hn : n < f.ends) (hroom : RoomAt s n) : Reaches s n f := by
  induction n, hmn using Nat.le_induction with
  | base => exact h
  | succ n _ ih =>
    exact (ih (by omega) (hroom.mono (by omega))).tick hroom (settlesIn_of_lt hquiet hn)

/-- The millisecond of a phase's end leads to the phase the timers settle in then. -/
theorem Reaches.turn (hquiet : s.shot.timer.armed = false) (h : Reaches s m f) (hm : m < f.ends)
    (hroom : RoomAt s f.ends) (hsettle : SettlesIn s timerFires f.ends f g) : Reaches s f.ends g := by
  obtain ⟨e, he⟩ : ∃ e, f.ends = e + 1 := ⟨f.ends - 1, by omega⟩
  rw [he] at hroom hsettle ⊢
  exact (h.wait hquiet (by omega) (by omega) (hroom.mono (by omega))).tick hroom hsettle

/-! ### The cycles (R207) -/

/-- The length of a cycle. -/
def cycleMs (s : State) : Nat := s.pre.pumpMs.toNat + s.pre.stopPumpMs.toNat + s.pre.pauseMs.toNat

/-- PUMP_ON of cycle `k`; in cycle 0 its outputs are those the entry left in `s`. -/
def pumpOnPhase (s : State) (k : Nat) : PreheatPhase :=
  ⟨.pumpOn, k * cycleMs s + s.pre.pumpMs.toNat, if k = 0 then s.pump.level else .l100,
    ⟨s.valve.en, if k = 0 then s.valve.out else s.valve.en⟩⟩

/-- HOLD of cycle `k`. -/
def holdPhase (s : State) (k : Nat) : PreheatPhase :=
  ⟨.hold, k * cycleMs s + s.pre.pumpMs.toNat + s.pre.stopPumpMs.toNat, .l0, ⟨s.valve.en, false⟩⟩

/-- PAUSE of cycle `k`. -/
def pausePhase (s : State) (k : Nat) : PreheatPhase :=
  ⟨.pause, k * cycleMs s + cycleMs s, .l0, ⟨s.valve.en, false⟩⟩

theorem next_pumpOnPhase (s : State) (k : Nat) :
    (pumpOnPhase s k).next s (pumpOnPhase s k).ends = holdPhase s k := rfl

theorem next_holdPhase (s : State) (k : Nat) :
    (holdPhase s k).next s (holdPhase s k).ends = pausePhase s k := by
  simp [holdPhase, pausePhase, PreheatPhase.next, cycleMs, Nat.add_assoc]

theorem next_pausePhase (s : State) (k : Nat) :
    (pausePhase s k).next s (pausePhase s k).ends = pumpOnPhase s (k + 1) := by
  simp [pumpOnPhase, pausePhase, PreheatPhase.next, valveAfter, Nat.succ_mul]

theorem holdPhase_ends_lt (hpause : 0 < s.pre.pauseMs.toNat) :
    (holdPhase s k).ends < (pausePhase s k).ends := by
  simp only [holdPhase, pausePhase, cycleMs]
  omega

/-- A preheat alone at the entry of PUMP_ON: no Shot timer runs, and the cycle has its PUMP_ON and PAUSE. -/
structure PreheatEntry (s : State) : Prop where
  quiet : s.shot.timer.armed = false
  stage : s.pre.stage = .pumpOn
  armed : s.pre.timer.armed = true
  deadline : s.pre.timer.deadline.toNat = s.now.toNat + s.pre.pumpMs.toNat
  pumpPos : 0 < s.pre.pumpMs.toNat
  pausePos : 0 < s.pre.pauseMs.toNat

theorem RegInv.preheatEntry (h : RegInv s) (hidle : s.shot.active = false) (hstage : s.pre.stage = .pumpOn)
    (hdeadline : s.pre.timer.deadline.toNat = s.now.toNat + s.pre.pumpMs.toNat) : PreheatEntry s := by
  have hon : s.pre.stage ≠ .off := by simp [hstage]
  have hbounds := h.preBounds hon
  have hstop : s.shot.stage = .idle := by simpa [hidle] using h.shotStage
  exact ⟨by simpa [hstop] using h.shotTimer, hstage, h.preTimer.2 hon, hdeadline, by omega, by omega⟩

namespace PreheatEntry

/-- The run begins in PUMP_ON of cycle 0. -/
theorem reaches_start (h : PreheatEntry s) : Reaches s 0 (pumpOnPhase s 0) :=
  ⟨s, rfl, rfl, rfl,
    ⟨s.pre.timer.deadline, by simp [h.deadline, pumpOnPhase],
      by rw [pumpOnPhase, ← h.stage, ← h.armed]⟩, rfl, rfl⟩

/-- A cycle enters HOLD after `pump_ms`, where HOLD lasts at all. -/
theorem reaches_hold (h : PreheatEntry s) (hstop : 0 < s.pre.stopPumpMs.toNat)
    (hroom : RoomAt s (pumpOnPhase s k).ends) (hk : Reaches s (k * cycleMs s) (pumpOnPhase s k)) :
    Reaches s (pumpOnPhase s k).ends (holdPhase s k) := by
  have hstart : k * cycleMs s < (pumpOnPhase s k).ends := Nat.lt_add_of_pos_right h.pumpPos
  have hlong : (pumpOnPhase s k).ends < (holdPhase s k).ends := Nat.lt_add_of_pos_right hstop
  refine hk.turn h.quiet hstart hroom (settlesIn_of_ends h.quiet hroom nofun le_rfl ?_)
  rw [next_pumpOnPhase]
  exact settlesIn_of_lt h.quiet hlong

/-- A cycle enters PAUSE after `pump_ms` and `stop_pump_ms`: from HOLD, or in the millisecond of entering
HOLD where `stop_pump_ms` is 0. -/
theorem reaches_pause (h : PreheatEntry s) (hroom : RoomAt s (holdPhase s k).ends)
    (hk : Reaches s (k * cycleMs s) (pumpOnPhase s k)) :
    Reaches s (holdPhase s k).ends (pausePhase s k) := by
  have hstart : k * cycleMs s < (pumpOnPhase s k).ends := Nat.lt_add_of_pos_right h.pumpPos
  have hends : (holdPhase s k).ends = (pumpOnPhase s k).ends + s.pre.stopPumpMs.toNat := rfl
  have hpaused (n : Nat) :
      SettlesIn s (n + 1) (holdPhase s k).ends (holdPhase s k) (pausePhase s k) := by
    refine settlesIn_of_ends h.quiet hroom nofun le_rfl ?_
    rw [next_holdPhase]
    exact settlesIn_of_lt h.quiet (holdPhase_ends_lt h.pausePos)
  rcases Nat.eq_zero_or_pos s.pre.stopPumpMs.toNat with hnone | hsome
  · have hsame : (holdPhase s k).ends = (pumpOnPhase s k).ends := by omega
    rw [hsame] at hroom hpaused ⊢
    refine hk.turn h.quiet hstart hroom (settlesIn_of_ends h.quiet hroom nofun le_rfl ?_)
    rw [next_pumpOnPhase]
    exact hpaused _
  · have hheld := h.reaches_hold hsome (hroom.mono (by omega)) hk
    exact hheld.turn h.quiet (by omega) hroom (hpaused _)

/-- A cycle is followed by the next. -/
theorem reaches_next (h : PreheatEntry s) (hroom : RoomAt s ((k + 1) * cycleMs s))
    (hk : Reaches s (k * cycleMs s) (pumpOnPhase s k)) :
    Reaches s ((k + 1) * cycleMs s) (pumpOnPhase s (k + 1)) := by
  have hends : (k + 1) * cycleMs s = (pausePhase s k).ends := Nat.succ_mul _ _
  have hpause : (holdPhase s k).ends < (pausePhase s k).ends := holdPhase_ends_lt h.pausePos
  have hlong : (k + 1) * cycleMs s < (pumpOnPhase s (k + 1)).ends :=
    Nat.lt_add_of_pos_right h.pumpPos
  rw [hends] at hroom hlong ⊢
  refine (h.reaches_pause (hroom.mono hpause.le) hk).turn h.quiet hpause hroom
    (settlesIn_of_ends h.quiet hroom nofun le_rfl ?_)
  rw [next_pausePhase]
  exact settlesIn_of_lt h.quiet hlong

/-- Every cycle begins in PUMP_ON, one cycle's length after the one before it. -/
theorem reaches_cycle (h : PreheatEntry s) (k : Nat) (hroom : RoomAt s (k * cycleMs s)) :
    Reaches s (k * cycleMs s) (pumpOnPhase s k) := by
  induction k with
  | zero => simpa using h.reaches_start
  | succ k ih => exact h.reaches_next hroom (ih (hroom.mono (Nat.mul_le_mul_right _ k.le_succ)))

end PreheatEntry

/-- The phase at `j` milliseconds into cycle `k` (R199). -/
def phaseAt (s : State) (k j : Nat) : PreheatPhase :=
  if j < s.pre.pumpMs.toNat then pumpOnPhase s k
  else if j < s.pre.pumpMs.toNat + s.pre.stopPumpMs.toNat then holdPhase s k
  else pausePhase s k

/-- Every millisecond of every cycle is in the phase of the table. -/
theorem PreheatEntry.reaches_phaseAt (h : PreheatEntry s) {j : Nat} (hj : j < cycleMs s)
    (hroom : RoomAt s (k * cycleMs s + j)) : Reaches s (k * cycleMs s + j) (phaseAt s k j) := by
  have hk := h.reaches_cycle k (hroom.mono (by omega))
  have hpumpOn : (pumpOnPhase s k).ends = k * cycleMs s + s.pre.pumpMs.toNat := rfl
  have hhold : (holdPhase s k).ends = (pumpOnPhase s k).ends + s.pre.stopPumpMs.toNat := rfl
  have hpause : (pausePhase s k).ends = k * cycleMs s + cycleMs s := rfl
  unfold phaseAt
  split_ifs with h1 h2
  · exact hk.wait h.quiet (by omega) (by omega) hroom
  · exact (h.reaches_hold (by omega) (hroom.mono (by omega)) hk).wait h.quiet (by omega) (by omega) hroom
  · exact (h.reaches_pause (hroom.mono (by omega)) hk).wait h.quiet (by omega) (by omega) hroom

end Phases

/-! ### The obligation -/

/-- Settles O50: the run is followed phase by phase to the one of its millisecond. -/
theorem preheatCycleRepeatsExactly : Obligations.PreheatCycleRepeatsExactly := by
  intro s n k j hinv hidle hstage hdeadline hn hj hroom
  have hbounds := hinv.preBounds (by simp [hstage])
  obtain rfl : n = cycleMs s := hn
  have hentry := hinv.preheatEntry hidle hstage hdeadline
  obtain ⟨t, hrun, helapsed, hshot, ⟨d, hd, hpre⟩, hlevel, hvalve⟩ := hentry.reaches_phaseAt hj hroom
  refine ⟨by unfold cycleMs; omega, by unfold cycleMs; omega, t, hrun, by omega, hshot, by rw [hpre],
    by rw [hpre], by rw [hpre], by rw [hpre], fun h1 => ?_, fun h1 h2 => ?_, fun h1 => ?_⟩
  · have hphase : phaseAt s k j = pumpOnPhase s k := if_pos h1
    rw [hphase] at hd hpre hlevel hvalve
    rw [hpre, hlevel, hvalve]
    refine ⟨rfl, hd.trans (Nat.add_assoc _ _ _).symm, fun hfirst => ?_, fun hlater => ?_⟩
    · simp [pumpOnPhase, hfirst]
    · simp [pumpOnPhase, hlater.ne']
  · have hphase : phaseAt s k j = holdPhase s k := (if_neg (by omega)).trans (if_pos h2)
    rw [hphase] at hd hpre hlevel hvalve
    rw [hpre, hlevel, hvalve]
    exact ⟨rfl, by simp only [hd, holdPhase]; omega, rfl, rfl⟩
  · have hphase : phaseAt s k j = pausePhase s k := (if_neg (by omega)).trans (if_neg (by omega))
    rw [hphase] at hd hpre hlevel hvalve
    rw [hpre, hlevel, hvalve]
    exact ⟨rfl, hd.trans (Nat.add_assoc _ _ _).symm, rfl, rfl⟩

end Sys2Proof.Machine
end

section
/-! PROOFS. WaterControl (spec/46_watercontrol.md R216 to R224, R230). Every start and both switches begin
with the same stop, so what the stop leaves is said once, and each command is the stop followed by its own
procedures on registers the stop has settled. For R230 the stop also leaves no sequencer running, so a start
runs at most the one its mode names; everything else a host can strobe leaves mode, active bit and preheat
stage alone. -/

namespace Sys2Proof.Machine
open Sys2Proof.Spec

/-! ### Words and modes -/

@[simp] theorem wcModeOf?_modeNumber (m : WcMode) : wcModeOf? (modeNumber m) = some m := by
  cases m <;> rfl

/-- A word of format `PVM` (R82). -/
theorem fieldsWord_percent_flag_mode (op : Nat) (p : Percent) (v : Bool) (k : BitVec 3) :
    fieldsWord op p.toNat (if v then 1 else 0) k.toNat 0 0 0 =
      ⟨BitVec.ofNat 8 op, p, flagField v, k.setWidth 8, 0, 0, 0⟩ := by
  simp [fieldsWord, flagField_eq_ofNat, BitVec.ofNat_toNat]

/-- A word of format `PD` (R82). -/
theorem fieldsWord_percent_duration (op : Nat) (p : Percent) (t : Millis) :
    fieldsWord op p.toNat 0 0 t 0 0 = ⟨BitVec.ofNat 8 op, p, 0, 0, t, 0, 0⟩ := by
  simp [fieldsWord]

/-! ### The arbitration (R216) -/

section Stop
variable {s : State}

/-- An override that wins is none that the rule says loses. -/
theorem not_loses_of_overrideWins (h : overrideWins s = true) : ¬ loses s := by
  rintro (hinactive | hzero | hold)
  · exact absurd ((overrideWins_iff s).1 h).1 (by simp [hinactive])
  · exact absurd h (by simp [overrideWins_of_zero hzero])
  · have hyoung := ((overrideWins_iff_of_le (by omega)).1 h).2
    omega

/-- An override that does not win is none that the rule says wins. -/
theorem not_wins_of_overrideWins_eq_false (h : overrideWins s = false) : ¬ wins s := by
  rintro ⟨hactive, hpast, hyoung⟩
  exact absurd ((overrideWins_iff_of_le hpast).2 ⟨hactive, hyoung⟩) (by simp [h])

/-- The machine's test takes one of the two branches of R216, and never the one the rule excludes. -/
theorem arbitrated_effectivePercent (p : Percent) (m : WcMode) (s : State) :
    Arbitrated p m s (effectivePercent p s)
      (if overrideWins s then { s.wc with mode := m } else ⟨m, false, 0, 0, 0⟩) := by
  unfold effectivePercent
  cases h : overrideWins s
  · exact .inr ⟨not_wins_of_overrideWins_eq_false h, rfl, rfl⟩
  · exact .inl ⟨not_loses_of_overrideWins h, rfl, rfl⟩

/-- `WC_STOP` with the number of a mode is the stop (R225). -/
theorem exec_wcStop_modeNumber (p : Percent) (v : Bool) (m : WcMode) (s : State) :
    exec (.wcStop p v (modeNumber m)) s = .next (wcStop p v m s) := by
  simp only [exec, execWcStop, wcModeOf?_modeNumber]

/-! ### What the stop leaves -/

theorem stopped_wcStop (p : Percent) (v : Bool) (m : WcMode) (s : State) :
    Stopped p v m s (wcStop p v m s) :=
  ⟨_, _, arbitrated_effectivePercent p m s, wcStop_eq p v m s⟩

variable {p : Percent} {v : Bool} {m : WcMode}

@[simp] theorem wcStop_mode : (wcStop p v m s).wc.mode = m := rfl

/-- The stop writes the level of the pump alone. -/
theorem wcStop_pump : (wcStop p v m s).pump =
    { s.pump with level := bucket (effectivePercent p s) } := by
  rw [wcStop_eq]

theorem wcStop_valve : (wcStop p v m s).valve = valveAfter v s.valve := by
  rw [wcStop_eq]
  rfl

@[simp] theorem wcStop_shot_active : (wcStop p v m s).shot.active = false := by
  rw [wcStop_eq]
  cases h : s.shot.active <;> simp [h]

@[simp] theorem wcStop_pre_stage : (wcStop p v m s).pre.stage = .off := by
  rw [wcStop_eq]

/-- What the flow-preserving stop of a start leaves of the registers that R230 speaks of. -/
@[simp] theorem flowKeepStop_sequencers : (flowKeepStop m s).wc.mode = m ∧
    (flowKeepStop m s).shot.active = false ∧ (flowKeepStop m s).pre.stage = .off :=
  ⟨wcStop_mode, wcStop_shot_active, wcStop_pre_stage⟩

/-- A request on a valve that was just asked open is judged as on the valve before it. -/
@[simp] theorem valveAfter_valveAfter_true (v : Bool) (x : PhaseOutput) :
    valveAfter v (valveAfter true x) = valveAfter v x := by
  simp [valveAfter]

/-- A start that follows a flow-preserving stop finds the valve as its own opening would leave it. -/
theorem wcStop_valve_opened : (⟨(wcStop p true m s).valve.en,
      (wcStop p true m s).valve.en || (wcStop p true m s).valve.out⟩ : PhaseOutput) =
    (wcStop p true m s).valve := by
  rw [wcStop_valve]
  exact valveAfter_valveAfter_true true s.valve

theorem valveSet_eq_valveAfter (v : Bool) (s : State) :
    valveSet v s = { s with valve := valveAfter v s.valve } := valveSet_eq v s

/-! ### The procedures that follow the stop -/

theorem pidSetTarget_eq_retarget (x : Rat) (k : PidMode) (s : State) :
    pidSetTarget x k s = { s with pid := retarget s.cfg x k s.pid } := by
  rw [pidSetTarget, legalTarget_eq_targetAfter, retarget]

/-- Back to the brew target after a stop (R220), which leaves parameters and controller alone. -/
theorem brewTarget_wcStop : brewTarget (wcStop p v m s) =
    { wcStop p v m s with pid := retarget s.cfg s.cfg.brewTemp .water s.pid } := by
  simp [brewTarget, pidSetTarget_eq_retarget]

theorem brewTarget_flowKeepStop : brewTarget (flowKeepStop m s) =
    { wcStop 100#8 true m s with pid := retarget s.cfg s.cfg.brewTemp .water s.pid } :=
  brewTarget_wcStop

theorem enableUnits_eq (s : State) : enableUnits s = { s with
    pump := { s.pump with po := { s.pump.po with en := true } }
    heater := { s.heater with po := { s.heater.po with en := true } }
    valve := { s.valve with en := true } } := rfl

theorem disableUnits_eq (s : State) : disableUnits s = { s with
    pump := { s.pump with po := ⟨false, false⟩ }
    heater := { s.heater with po := ⟨false, false⟩ }
    valve := ⟨false, false⟩ } := rfl

/-! ### The starts, outside their own mode (R221 to R223) -/

theorem exec_wcStartShot_of_mode_ne (h : s.wc.mode ≠ .shot) : exec .wcStartShot s =
    .next (shotStart s.cfg.shotInitFillMs s.cfg.shotRampMs s.cfg.shotPauseMs s.cfg.shotStartPct
      s.cfg.shotStopPct (brewTarget (flowKeepStop .shot s))) := by
  have hexec : exec .wcStartShot s = .next (shotStartConfigured (brewTarget (flowKeepStop .shot s))) :=
    congrArg Host.Outcome.next (if_neg h)
  simpa only [shotStartConfigured, brewTarget_keeps, flowKeepStop_keeps] using hexec

theorem exec_wcStartPreheat_of_mode_ne (h : s.wc.mode ≠ .preheat) : exec .wcStartPreheat s =
    .next (preheatStart s.cfg.prePumpMs s.cfg.preStopPumpMs s.cfg.prePauseMs
      (brewTarget (flowKeepStop .preheat s))) := by
  have hexec : exec .wcStartPreheat s =
      .next (preheatStartConfigured (brewTarget (flowKeepStop .preheat s))) :=
    congrArg Host.Outcome.next (if_neg h)
  simpa only [preheatStartConfigured, brewTarget_keeps, flowKeepStop_keeps] using hexec

theorem exec_wcStartSteam_of_mode_ne (p : Percent) (v : Bool) (h : s.wc.mode ≠ .steam) :
    exec (.wcStartSteam p v) s =
      .next (pidSetTarget s.cfg.steamTemp .steam
        (valveSet v (pumpSetLevel p (flowKeepStop .steam s)))) :=
  congrArg Host.Outcome.next (if_neg h)

end Stop

/-! ### One sequencer at a time (R230) -/

section Arbitration
variable {s t : State}

/-- What the arbitration invariant reads is the same in `s` and `t`. -/
def SameSequencers (s t : State) : Prop :=
  t.wc.mode = s.wc.mode ∧ t.shot.active = s.shot.active ∧ (t.pre.stage = .off ↔ s.pre.stage = .off)

theorem OneSequencer.of_same (h : OneSequencer s) (hst : SameSequencers s t) : OneSequencer t := by
  obtain ⟨hmode, hactive, hstage⟩ := hst
  constructor
  · rw [hactive, hmode]
    exact h.shotMode
  · rw [ne_eq, hstage, hmode]
    exact h.preheatMode

theorem oneSequencer_of_stopped (hshot : s.shot.active = false) (hpre : s.pre.stage = .off) :
    OneSequencer s :=
  ⟨fun h => absurd h (by simp [hshot]), fun h => absurd hpre h⟩

/-- With the preheat off a shot may be started in mode SHOT. -/
theorem oneSequencer_shotStart (hmode : s.wc.mode = .shot) (hpre : s.pre.stage = .off)
    (f r z : Millis) (a b : Percent) : OneSequencer (shotStart f r z a b s) :=
  ⟨fun _ => by simp [hmode], fun h => absurd hpre (by simpa using h)⟩

/-- With no shot active a preheat may be started in mode PREHEAT. -/
theorem oneSequencer_preheatStart (hmode : s.wc.mode = .preheat) (hshot : s.shot.active = false)
    (a b c : Millis) : OneSequencer (preheatStart a b c s) :=
  ⟨fun h => absurd h (by simp [hshot]), fun _ => by simp [hmode]⟩

@[simp] theorem shotEnterFull_active (s : State) : (shotEnterFull s).shot.active = s.shot.active := by
  rw [shotEnterFull_eq]

theorem shotFireRamp_active (s : State) : (shotFireRamp s).shot.active = s.shot.active := by
  unfold shotFireRamp
  split
  · rcases shotAfterRamp_cases s with ⟨-, e⟩ | ⟨-, e⟩ <;> simp [e]
  · obtain ⟨c, d, k, e, -⟩ := shotRampStep_eq s
    simp [e]

/-- A fire of the Shot timer moves the stages of an active shot and neither starts nor stops one. -/
theorem shotTimerFire_active (s : State) : (shotTimerFire s).shot.active = s.shot.active := by
  rcases shotTimerFire_cases s with
    ⟨-, e⟩ | ⟨-, -, e⟩ | ⟨-, -, e⟩ | ⟨-, -, e⟩ | ⟨-, -, e⟩ <;> rw [e]
  · simp
  · obtain ⟨c, d, k, e, -⟩ := shotFireInitFill_eq (shotDisarm s)
    simp [e]
  · simp [shotFireRamp_active]
  · simp
  · simp

/-- A fire of the Preheat timer moves the stages of a running preheat and neither starts nor stops one. -/
theorem preheatTimerFire_off_iff (s : State) :
    (preheatTimerFire s).pre.stage = .off ↔ s.pre.stage = .off := by
  rcases preheatTimerFire_cases s with ⟨hg, e⟩ | ⟨hg, e⟩ | ⟨hg, e⟩ | ⟨hg, e⟩ <;> rw [e]
  · simp [preFirePumpOn_eq, hg]
  · simp [preFireHold_eq, hg]
  · simp [preheatEnterPumpOn_eq, hg]
  · simp

theorem OneSequencer.runDueTimers (h : OneSequencer s) {n : Nat} (ht : runDueTimers n s = some t) :
    OneSequencer t :=
  runDueTimers_induct (P := OneSequencer)
    (fun u hu _ => hu.of_same ⟨by simp, shotTimerFire_active u, by simp⟩)
    (fun u hu _ _ => hu.of_same ⟨by simp, by simp, preheatTimerFire_off_iff u⟩) n s t ht h

theorem OneSequencer.tickMs (h : OneSequencer s) (ht : execTickMs s = .next t) : OneSequencer t := by
  obtain ⟨-, u, hu, rfl⟩ := execTickMs_next ht
  have hticks : OneSequencer (runTicks (advanceClock s)) := h.of_same (by simp [SameSequencers])
  exact (hticks.runDueTimers hu).of_same (by simp [SameSequencers])

theorem OneSequencer.getShotTime (h : OneSequencer s) : OneSequencer (getShotTime s).1 := by
  unfold Machine.getShotTime
  repeat' split
  · exact h
  · exact h.of_same (by simp [SameSequencers])
  · exact h.of_same (by simp [SameSequencers])
  · exact h

theorem OneSequencer.illegalWord (h : OneSequencer s) : OneSequencer (illegalWord s) :=
  h.of_same (by simp [SameSequencers])

/-- Every command a host may strobe with the port closed keeps the arbitration invariant. -/
theorem OneSequencer.exec_of_closed (h : OneSequencer s) (hclosed : s.cfg.componentPort = false)
    (i : Instr) : NextSatisfies OneSequencer (exec i s) := by
  by_cases hi : i.isComponent = true
  · rw [exec_component_of_closed hi hclosed]
    exact nextSatisfies_next h.illegalWord
  have stopped {t : State} (hshot : t.shot.active = false) (hpre : t.pre.stage = .off) :
      NextSatisfies OneSequencer (.next t) := nextSatisfies_next (oneSequencer_of_stopped hshot hpre)
  have same {t : State} (ht : SameSequencers s t) : NextSatisfies OneSequencer (.next t) :=
    nextSatisfies_next (h.of_same ht)
  cases i with
  | wcEnable | wcDisable | wcStartPump => exact stopped (by simp) (by simp)
  | wcStartShot =>
    by_cases hm : s.wc.mode = .shot
    · exact same (by simp [hm, SameSequencers])
    · rw [exec_wcStartShot_of_mode_ne hm]
      exact nextSatisfies_next (oneSequencer_shotStart (by simp) (by simp) _ _ _ _ _)
  | wcStartPreheat =>
    by_cases hm : s.wc.mode = .preheat
    · exact same (by simp [hm, SameSequencers])
    · rw [exec_wcStartPreheat_of_mode_ne hm]
      exact nextSatisfies_next (oneSequencer_preheatStart (by simp) (by simp) _ _ _)
  | wcStartSteam =>
    by_cases hm : s.wc.mode = .steam
    · exact same (by simp [hm, SameSequencers])
    · rw [exec_wcStartSteam_of_mode_ne _ _ hm]
      exact stopped (by simp) (by simp)
  | wcStop =>
    refine nextSatisfies_next ?_
    split
    · exact oneSequencer_of_stopped wcStop_shot_active wcStop_pre_stage
    · exact h.illegalWord
  | tickMs => exact fun _ ht => h.tickMs ht
  | qShotTime => exact nextSatisfies_next (h.getShotTime.of_same (by simp [SameSequencers]))
  | nop | wcOverridePump | qPidP | qPidI | qPidD | qPidU | qPumpDuty | qStatus =>
    exact same ⟨rfl, rfl, .rfl⟩
  | poEnable | poDisable | poOn | poOff | pumpSetLevel | pumpTick | heaterSetDuty | heaterTick
  | pidStart | pidStop | pidSetTarget | pidOverride | pidCycle | shotStart | shotStop | preheatStart
  | preheatStop => exact absurd rfl hi

/-- Every step of a machine with the port closed keeps the arbitration invariant. -/
theorem OneSequencer.step_of_closed (h : OneSequencer s) (hclosed : s.cfg.componentPort = false) :
    NextSatisfies OneSequencer (step s) := by
  rcases step_cases s with ⟨-, e⟩ | ⟨rest, -, e⟩ | ⟨w, x, rest, i, -, -, e⟩ | ⟨w, x, rest, _, -, -, e⟩ <;>
    rw [e]
  · exact nextSatisfies_next (h.of_same (by simp [SameSequencers]))
  · exact nextSatisfies_next (oneSequencer_of_stopped rfl rfl)
  · exact (h.of_same (by simp [SameSequencers])).exec_of_closed (by simpa using hclosed) i
  · exact nextSatisfies_next (h.of_same (by simp [SameSequencers]))

end Arbitration

/-! ### The obligations -/

/-- Settles O37: the command is the stop, whose test takes no branch that the rule excludes. -/
theorem stopArbitratesThePumpOverride : Obligations.StopArbitratesThePumpOverride := by
  intro p v m s
  exact ⟨(fieldsWord_percent_flag_mode _ p v _).symm, _, stopped_wcStop p v m s,
    exec_wcStop_modeNumber p v m s⟩

/-- Settles O53: every step keeps the arbitration invariant, which excludes two running sequencers. -/
theorem hostStepsKeepOneSequencer : Obligations.HostStepsKeepOneSequencer := by
  intro s t hclosed h ht
  have hone : OneSequencer t := h.step_of_closed hclosed t ht
  exact ⟨hone, hone.exclusive⟩

/-- Settles O38: the stop, the brew target, the start of the controller and the three enables, each by its
equation. -/
theorem enableStopsThenStartsThePid : Obligations.EnableStopsThenStartsThePid := by
  intro s
  refine ⟨rfl, _, stopped_wcStop 0#8 false .off s, ?_⟩
  change Host.Outcome.next (enableUnits (pidStart (brewTarget (wcStop 0#8 false .off s)))) = _
  rw [brewTarget_wcStop, pidStart_eq, enableUnits_eq, selectPv_eq_processValue]
  simp [wcStop_pump, retarget]

/-- Settles O39: the stop, the stop of the controller and the three disables, each by its equation. -/
theorem disableTurnsEverythingOff : Obligations.DisableTurnsEverythingOff := by
  intro s
  refine ⟨rfl, _, stopped_wcStop 0#8 false .off s, ?_⟩
  change Host.Outcome.next (disableUnits (pidStop (wcStop 0#8 false .off s))) = _
  rw [pidStop_eq, disableUnits_eq]
  simp

/-- Settles O40: the stop and the brew target. -/
theorem startPumpGoesThroughTheArbiter : Obligations.StartPumpGoesThroughTheArbiter := by
  intro p v s
  exact ⟨(fieldsWord_percent_flag _ p v).symm, _, stopped_wcStop p v _ s,
    congrArg Host.Outcome.next brewTarget_wcStop⟩

/-- Settles O41: outside mode SHOT the stop leaves no shot active, so the start is accepted or rejected by
its arguments alone. -/
theorem startShotStopsThenStarts : Obligations.StartShotStopsThenStarts := by
  refine fun s => ⟨rfl, fun hm => congrArg Host.Outcome.next (if_pos hm), fun hm =>
    ⟨_, stopped_wcStop 100#8 true .shot s, fun hout => ?_, fun hin => ?_⟩⟩ <;>
    rw [exec_wcStartShot_of_mode_ne hm]
  · rw [shotStart_of_out (by simp) hout, brewTarget_flowKeepStop]
    simp [raise, setFlag]
  · rw [shotStart_of_accepted (by simp) hin, shotAccept_eq]
    refine ⟨_, _, armedAt_narrow _ s (brewTarget (flowKeepStop .shot s)), ?_⟩
    rw [brewTarget_flowKeepStop]
    simp [wcStop_pump, wcStop_valve_opened]

/-- Settles O42: outside mode PREHEAT the stop leaves the preheat off, so the start is accepted or rejected
by its arguments alone. -/
theorem startPreheatStopsThenStarts : Obligations.StartPreheatStopsThenStarts := by
  refine fun s => ⟨rfl, fun hm => congrArg Host.Outcome.next (if_pos hm), fun hm =>
    ⟨_, stopped_wcStop 100#8 true .preheat s, ?_⟩⟩
  rw [exec_wcStartPreheat_of_mode_ne hm]
  rcases preheatStart_cases s.cfg.prePumpMs s.cfg.preStopPumpMs s.cfg.prePauseMs
    (brewTarget (flowKeepStop .preheat s)) with ⟨hg, -⟩ | ⟨-, hlegal, e⟩ | ⟨-, hlegal, e⟩
  · exact absurd (by simp) hg
  · refine ⟨fun hout => absurd hlegal (by simp [preArgsOut_iff.1 hout]), fun _ => ?_⟩
    refine ⟨_, _, armedAt_narrow _ s (preLoad s.cfg.prePumpMs s.cfg.preStopPumpMs s.cfg.prePauseMs
      (brewTarget (flowKeepStop .preheat s))), ?_⟩
    rw [e, preheatEnterPumpOn_eq, preLoad, brewTarget_flowKeepStop]
    simp [wcStop_pump, wcStop_valve_opened]
  · refine ⟨fun _ => ?_, fun hin => absurd (preArgsOut_iff.2 hlegal) hin⟩
    rw [e, brewTarget_flowKeepStop]
    simp [raise, setFlag]

/-- Settles O43: outside mode STEAM the pump level and the valve of the stop are written over, and a valve
that the stop was asked to open is as open to a request as before. -/
theorem startSteamLeavesItsOwnOutputs : Obligations.StartSteamLeavesItsOwnOutputs := by
  refine fun p v s => ⟨(fieldsWord_percent_flag _ p v).symm,
    fun hm => congrArg Host.Outcome.next (if_pos hm),
    fun hm => ⟨_, stopped_wcStop 100#8 true .steam s, ?_⟩⟩
  rw [exec_wcStartSteam_of_mode_ne p v hm, pidSetTarget_eq_retarget, valveSet_eq_valveAfter,
    pumpSetLevel, flowKeepStop]
  simp [wcStop_pump, wcStop_valve]

/-- Settles O44: the command writes the level and the override registers alone. -/
theorem overridePumpSetsThePumpAtOnce : Obligations.OverridePumpSetsThePumpAtOnce :=
  fun p t _ => ⟨(fieldsWord_percent_duration _ p t).symm, rfl⟩

end Sys2Proof.Machine
end

section
/-! PROOFS. The time base and the queries (spec/47_time_and_queries.md R240 to R251). The loop of R242 ends
because each fire uses up one of the fires its sequencer has left in the millisecond: at most 12 of the Shot
timer and 2 of the Preheat timer. -/

namespace Sys2Proof.Machine
open Sys2Proof.Spec

/-! ### Responses on the port (R91) -/

/-- Saturation is a clamp of the number the 64 bits stand for. -/
theorem sat64_toInt (x : Int) : (sat64 x).toInt = max (-2 ^ 63) (min x (2 ^ 63 - 1)) :=
  BitVec.toInt_ofInt_eq_self (by decide) (by omega) (by omega)

/-- A whole number of 65536ths loses nothing to the floor. -/
theorem portWord_rational {q : Rat} {n : Int} (h : q * 65536 = n) : portWord (.rational q) = sat64 n := by
  rw [portWord, h, Rat.floor_intCast]

/-! ### The status word (R250) -/

/-- A bit is a field of width 1. -/
theorem getLsbD_eq_iff_extractLsb' {n : Nat} (w : BitVec n) (i : Nat) (b : Bool) :
    w.getLsbD i = b ↔ w.extractLsb' i 1 = BitVec.ofBool b := by
  have hbit : w.getLsbD i = (w.extractLsb' i 1).getLsbD 0 := by simp
  rw [hbit]
  generalize w.extractLsb' i 1 = x
  revert x b
  decide

/-- The width of the status word as the sum of its fields' widths, along which a read skips fields. -/
theorem extractLsb'_statusWord (s : State) (start len : Nat) :
    (statusWord s).extractLsb' start len = BitVec.extractLsb'
      (n := 25 + 7 + 1 + 7 + 1 + 1 + 1 + 1 + 3 + 2 + 3 + 1 + 1 + 1 + 1 + 1 + 1 + 1 + 1 + 1 + 1 + 1 + 1)
      start len (statusWord s) := rfl

theorem levelPercent_le (l : PumpLevel) : levelPercent l ≤ 100 := by cases l <;> decide

theorem pidModeBit_eq (m : PidMode) : pidModeBit m = decide (m = .steam) := by cases m <;> rfl

theorem wcModeBits_eq (m : WcMode) : wcModeBits m = modeNumber m := by cases m <;> rfl

/-! ### The loop of due timers (R242) -/

section Timers
variable {s t : State} {n m : Nat}

theorem shotDue_eq_false_iff (s : State) : shotDue s = false ↔
    ¬(s.shot.timer.armed = true ∧ s.shot.timer.deadline.toNat ≤ s.now.toNat) := by
  rw [← shotDue_iff, Bool.not_eq_true]

theorem preDue_eq_false_iff (s : State) : preDue s = false ↔
    ¬(s.pre.timer.armed = true ∧ s.pre.timer.deadline.toNat ≤ s.now.toNat) := by
  rw [← preDue_iff, Bool.not_eq_true]

/-- The loop with enough fires allowed ends where the rule's loop does. -/
theorem runDueTimers_of_settles (h : Settles n s t) (hnm : n ≤ m) : runDueTimers m s = some t := by
  induction h generalizing m with
  | done s hshot hpre =>
    exact runDueTimers_of_quiet ((shotDue_eq_false_iff s).2 hshot) ((preDue_eq_false_iff s).2 hpre) m
  | shot n s t harmed hdue _ ih =>
    obtain ⟨m, rfl⟩ := Nat.exists_eq_add_of_lt hnm
    rw [runDueTimers_of_shotDue ((shotDue_iff s).2 ⟨harmed, hdue⟩)]
    exact ih (by omega)
  | preheat n s t hshot harmed hdue _ ih =>
    obtain ⟨m, rfl⟩ := Nat.exists_eq_add_of_lt hnm
    rw [runDueTimers_of_preDue ((shotDue_eq_false_iff s).2 hshot) ((preDue_iff s).2 ⟨harmed, hdue⟩)]
    exact ih (by omega)

/-- What the loop meets from the first millisecond on, with room for every duration. -/
structure Settleable (s : State) : Prop where
  inv : RegInv s
  ticked : 0 < s.now.toNat
  room : RoomAt s 0

theorem Settleable.shotTimerFire (h : Settleable s) (hd : shotDue s = true) :
    Settleable (shotTimerFire s) where
  inv := h.inv.shotTimerFire hd h.ticked
  ticked := by simpa using h.ticked
  room := by simpa [RoomAt] using h.room

theorem Settleable.preheatTimerFire (h : Settleable s) (hd : preDue s = true) :
    Settleable (preheatTimerFire s) where
  inv := h.inv.preheatTimerFire hd
  ticked := by simpa using h.ticked
  room := by simpa [RoomAt] using h.room

/-- A deadline a positive duration from now is not reached yet. -/
theorem RoomAt.lt_deadline (h : RoomAt s 0) {delta : Millis} (hdelta : 0 < delta.toNat) (u : State) :
    s.now.toNat < (narrow 64 ((s.now.toNat : Int) + delta.toNat) u).toNat := by
  have hlt := delta.isLt
  unfold RoomAt at h
  have hd := narrow_toNat (w := 64) (x := (s.now.toNat : Int) + delta.toNat) (by omega) (by omega) u
  omega

/-! ### The fires a sequencer has left -/

/-- The most fires of a due Shot timer in one millisecond: a ramp takes steps of 10 and a fire to end it,
INIT_FILL comes before a ramp from 0, and neither PAUSE nor FULL is entered with a due timer. -/
def shotStageFires (x : Shot) : Nat :=
  match x.stage with
  | .initFill => 12
  | .ramp => (109 - x.curPct.toNat) / 10 + 1
  | .pause => 1
  | .idle => 0
  | .full => 0

/-- The fires the Shot timer has left in the millisecond: none unless it is due. -/
def shotFiresLeft (s : State) : Nat := if shotDue s then shotStageFires s.shot else 0

/-- The most fires of a due Preheat timer in one millisecond: HOLD alone can have no duration. -/
def preStageFires (x : Preheat) : Nat :=
  match x.stage with
  | .pumpOn => 2
  | .hold => 1
  | .pause => 1
  | .off => 0

/-- The fires the Preheat timer has left in the millisecond: none unless it is due. -/
def preFiresLeft (s : State) : Nat := if preDue s then preStageFires s.pre else 0

theorem shotFiresLeft_of_due (h : shotDue s = true) : shotFiresLeft s = shotStageFires s.shot := if_pos h

theorem shotFiresLeft_of_not_due (h : shotDue s = false) : shotFiresLeft s = 0 := by simp [shotFiresLeft, h]

theorem shotFiresLeft_le_stage (s : State) : shotFiresLeft s ≤ shotStageFires s.shot := by
  unfold shotFiresLeft
  split <;> omega

theorem preFiresLeft_of_due (h : preDue s = true) : preFiresLeft s = preStageFires s.pre := if_pos h

theorem preFiresLeft_of_not_due (h : preDue s = false) : preFiresLeft s = 0 := by simp [preFiresLeft, h]

theorem preFiresLeft_le_stage (s : State) : preFiresLeft s ≤ preStageFires s.pre := by
  unfold preFiresLeft
  split <;> omega

/-- Each sequencer's fires are counted on its own registers and the clock, so the other's leave them alone. -/
theorem preFiresLeft_shotTimerFire (s : State) : preFiresLeft (shotTimerFire s) = preFiresLeft s := by
  simp [preFiresLeft, preDue]

theorem shotFiresLeft_preheatTimerFire (s : State) :
    shotFiresLeft (preheatTimerFire s) = shotFiresLeft s := by
  simp [shotFiresLeft, shotDue]

theorem shotFiresLeft_le (s : State) : shotFiresLeft s ≤ 12 := by
  refine (shotFiresLeft_le_stage s).trans ?_
  unfold shotStageFires
  split <;> omega

theorem preFiresLeft_le (s : State) : preFiresLeft s ≤ 2 := by
  refine (preFiresLeft_le_stage s).trans ?_
  unfold preStageFires
  split <;> omega

/-- FULL arms no timer. -/
theorem shotDue_shotEnterFull_shotDisarm (s : State) : shotDue (shotEnterFull (shotDisarm s)) = false := by
  simp [shotEnterFull_eq, shotDue]

/-- The end of a ramp arms the timer for a positive pause, or not at all. -/
theorem shotDue_shotAfterRamp_shotDisarm (h : RoomAt s 0) :
    shotDue (shotAfterRamp (shotDisarm s)) = false := by
  rcases shotAfterRamp_cases (shotDisarm s) with ⟨hpause, e⟩ | ⟨-, e⟩ <;> rw [e]
  · simpa [shotDue] using h.lt_deadline hpause (shotDisarm s)
  · exact shotDue_shotEnterFull_shotDisarm s

/-- A fire of the Shot timer uses up one fire of its sequencer. -/
theorem Settleable.shotFiresLeft_shotTimerFire (h : Settleable s) (hd : shotDue s = true) :
    shotFiresLeft (Machine.shotTimerFire s) < shotFiresLeft s := by
  obtain ⟨ha, hstage⟩ := h.inv.shot_of_due hd
  rw [shotFiresLeft_of_due hd]
  rcases hstage with hg | hg | hg
  · obtain ⟨c, d, k, e, -⟩ := shotFireInitFill_eq (shotDisarm s)
    refine (shotFiresLeft_le_stage _).trans_lt ?_
    rw [shotTimerFire_of_initFill ha hg, e]
    simp only [shotStageFires, hg]
    omega
  · by_cases hend : s.shot.curPct.toNat > s.shot.stopPct.toNat ∨ s.shot.curPct.toNat ≥ 100
    · rw [shotTimerFire_of_rampEnd ha hg hend,
        shotFiresLeft_of_not_due (shotDue_shotAfterRamp_shotDisarm h.room)]
      simp only [shotStageFires, hg]
      omega
    · obtain ⟨c, d, k, e, hc⟩ := shotRampStep_eq (shotDisarm s)
      have hcur : c.toNat = s.shot.curPct.toNat + 10 := (hc (by simp; omega)).1
      refine (shotFiresLeft_le_stage _).trans_lt ?_
      rw [shotTimerFire_of_rampStep ha hg (by omega) (by omega), e]
      simp only [shotStageFires, shotDisarm_shot, hg, hcur]
      omega
  · rw [shotTimerFire_of_pause ha hg, shotFiresLeft_of_not_due (shotDue_shotEnterFull_shotDisarm s)]
    simp [shotStageFires, hg]

/-- A fire of the Preheat timer uses up one fire of its sequencer. -/
theorem Settleable.preFiresLeft_preheatTimerFire (h : Settleable s) (hd : preDue s = true) :
    preFiresLeft (Machine.preheatTimerFire s) < preFiresLeft s := by
  obtain ⟨hpump, -, -, hpause, -⟩ := h.inv.preBounds (h.inv.preheat_of_due hd)
  rw [preFiresLeft_of_due hd]
  rcases preheatTimerFire_cases s with ⟨hg, e⟩ | ⟨hg, e⟩ | ⟨hg, e⟩ | ⟨hg, -⟩
  · refine (preFiresLeft_le_stage _).trans_lt ?_
    rw [e, preFirePumpOn_eq]
    simp [preStageFires, hg]
  · have hquiet : preDue (preFireHold (preDisarm s)) = false := by
      rw [preFireHold_eq]
      simpa [preDue] using h.room.lt_deadline (by omega : 0 < s.pre.pauseMs.toNat) (preDisarm s)
    rw [e, preFiresLeft_of_not_due hquiet]
    simp [preStageFires, hg]
  · have hquiet : preDue (preheatEnterPumpOn (preDisarm s)) = false := by
      rw [preheatEnterPumpOn_eq]
      simpa [preDue] using h.room.lt_deadline (by omega : 0 < s.pre.pumpMs.toNat) (preDisarm s)
    rw [e, preFiresLeft_of_not_due hquiet]
    simp [preStageFires, hg]
  · exact absurd hg (h.inv.preheat_of_due hd)

/-- The loop ends within the fires the two sequencers have left. -/
theorem Settleable.settles {s : State} (h : Settleable s) :
    ∃ n t, n ≤ shotFiresLeft s + preFiresLeft s ∧ Settles n s t := by
  cases hshot : shotDue s with
  | true =>
    have hless := h.shotFiresLeft_shotTimerFire hshot
    have hsame := preFiresLeft_shotTimerFire s
    obtain ⟨n, t, hn, ht⟩ := (h.shotTimerFire hshot).settles
    obtain ⟨harmed, hdue⟩ := (shotDue_iff s).1 hshot
    exact ⟨n + 1, t, by omega, .shot n s t harmed hdue ht⟩
  | false =>
    have hnot := (shotDue_eq_false_iff s).1 hshot
    cases hpre : preDue s with
    | true =>
      have hless := h.preFiresLeft_preheatTimerFire hpre
      have hsame := shotFiresLeft_preheatTimerFire s
      obtain ⟨n, t, hn, ht⟩ := (h.preheatTimerFire hpre).settles
      obtain ⟨harmed, hdue⟩ := (preDue_iff s).1 hpre
      exact ⟨n + 1, t, by omega, .preheat n s t hnot harmed hdue ht⟩
    | false => exact ⟨0, s, Nat.zero_le _, .done s hnot ((preDue_eq_false_iff s).1 hpre)⟩
termination_by shotFiresLeft s + preFiresLeft s

/-! ### The millisecond (R241) -/

/-- The clock, the heater tick and the pump tick as R241 writes them. -/
theorem runTicks_advanceClock (s : State) : runTicks (advanceClock s) = afterTicks s := by
  have hcfg : (runHeaterTick (advanceClock s)).cfg = s.cfg := by simp
  rw [runTicks, runPumpTick_eq, hcfg]
  rfl

/-- The PID period as R243 writes it. -/
theorem runPidPeriod_eq_afterPeriod (s : State) : runPidPeriod s = afterPeriod s := rfl

/-- A millisecond whose timers settle in `t` within 16 fires ends in `t` after its PID period. -/
theorem execTickMs_of_settles (hend : s.now.toNat + 1 < 2 ^ 64) (hn : n ≤ 16)
    (h : Settles n (afterTicks s) t) : execTickMs s = .next (afterPeriod t) := by
  rw [← runTicks_advanceClock] at h
  exact execTickMs_of_settled hend (runDueTimers_of_settles h hn)

/-- With room on the clock the state whose timers the millisecond looks at is one the loop ends from. -/
theorem settleable_afterTicks (h : RegInv s) (hroom : ClockRoom s) : Settleable (afterTicks s) := by
  unfold ClockRoom at hroom
  have hend : s.now.toNat + 1 < 2 ^ 64 := by omega
  have hnow : (afterTicks s).now.toNat = s.now.toNat + 1 := by
    simp [← runTicks_advanceClock, advanceClock_now hend]
  refine ⟨?_, by omega, by unfold RoomAt; omega⟩
  rw [← runTicks_advanceClock]
  exact (h.advanceClock hend).runTicks

/-- No event but the clock's advance moves the clock. -/
theorem now_of_settles_afterTicks (h : Settles n (afterTicks s) t) : (afterPeriod t).now = s.now + 1 := by
  rw [← runTicks_advanceClock] at h
  obtain ⟨-, hnow, -, -⟩ := runDueTimers_keeps (runDueTimers_of_settles h le_rfl)
  simp [← runPidPeriod_eq_afterPeriod, hnow, advanceClock]

end Timers

/-! ### The obligations -/

/-- Settles O47: the machine's loop, with 16 fires allowed, ends where the rule's loop does. -/
theorem tickRunsTheEventsInOrder : Obligations.TickRunsTheEventsInOrder :=
  ⟨rfl, fun _ _ _ hend hn h => execTickMs_of_settles hend hn h⟩

/-- Settles O49: at most 12 fires of the Shot timer and 2 of the Preheat timer are left in a millisecond. -/
theorem timersSettleWithinFourteenFires : Obligations.TimersSettleWithinFourteenFires := by
  intro s h hroom
  obtain ⟨n, t, hn, ht⟩ := (settleable_afterTicks h hroom).settles
  have hshot := shotFiresLeft_le (afterTicks s)
  have hpre := preFiresLeft_le (afterTicks s)
  have hfourteen : n ≤ 14 := by omega
  have hend : s.now.toNat + 1 < 2 ^ 64 := by unfold ClockRoom at hroom; omega
  exact ⟨⟨n, t, hfourteen, ht⟩,
    afterPeriod t, execTickMs_of_settles hend (by omega) ht, now_of_settles_afterTicks ht⟩

/-- Settles O45: the commands by their meanings, the port word by its clamp. -/
theorem nopAndQueriesChangeNoRegister : Obligations.NopAndQueriesChangeNoRegister := by
  refine ⟨⟨rfl, rfl, rfl, rfl, rfl, rfl⟩, fun s => ⟨rfl, rfl, rfl, rfl, rfl, rfl⟩, fun _ => rfl, ?_, ?_, ?_⟩
  · rintro q n rfl
    have hclamp : (portWord (.rational q)).toInt = _ := sat64_toInt (q * 65536).floor
    omega
  · rw [portWord_rational (n := -655360) (by norm_num)]; rfl
  · rw [portWord_rational (n := 8192) (by norm_num)]; rfl

/-- Settles O46: each field is read by skipping the fields below it. -/
theorem statusWordHasItsBits : Obligations.StatusWordHasItsBits := by
  refine ⟨rfl, fun s => ⟨statusWord s, rfl, ?_⟩⟩
  simp only [getLsbD_eq_iff_extractLsb', extractLsb'_statusWord]
  unfold statusWord
  simp (disch := omega) only [BitVec.extractLsb'_append_eq_of_le, BitVec.extractLsb'_append_eq_of_add_le]
  simp only [Nat.reduceSub, BitVec.extractLsb'_eq_self, true_and]
  have hlevel := levelPercent_le s.pump.level
  have hduty := s.heater.duty.isLt
  refine ⟨congrArg BitVec.ofBool (pidModeBit_eq _), ?_, ?_, wcModeBits_eq _, ?_, rfl, ?_, trivial⟩
  · cases s.shot.stage <;> rfl
  · cases s.pre.stage <;> rfl
  · exact Nat.mod_eq_of_lt (by omega)
  · exact Nat.mod_eq_of_lt (by omega)

/-- Settles O48: the clock's last value is the one `TICK_MS` tests for. -/
theorem tickIsRefusedAtTheEndOfTheClock : Obligations.TickIsRefusedAtTheEndOfTheClock :=
  fun s hs => if_pos (by omega)

end Sys2Proof.Machine
end
section
/-! PROOFS. What no rule reads back (spec/60_exceptions.md R265, 10_state.md R24, R34). An operation that
ignores the unread registers takes states that agree but for them to states that agree but for them. The
property is closed under composition and under a choice that reads none of them, so each operation has it
once and a command has it by the operations it is written with. -/

namespace Sys2Proof.Machine
open Sys2Proof.Spec

/-! ### Operations that ignore the unread registers -/

/-- `s` with the error flags, the telemetry registers, `pump_last_on` and the coming strobes of `u`. -/
def withUnreadOf (u s : State) : State :=
  { s with err := u.err, tele := u.tele, feed := u.feed, pump := { s.pump with lastOn := u.pump.lastOn } }

theorem agreeButUnread_iff (s t : State) : AgreeButUnread s t ↔ t = withUnreadOf t s := .rfl

theorem agreeButUnread_withUnreadOf (u s : State) : AgreeButUnread s (withUnreadOf u s) := rfl

@[simp] theorem withUnreadOf_keeps (u s : State) :
    (withUnreadOf u s).cfg = s.cfg ∧ (withUnreadOf u s).now = s.now ∧
    (withUnreadOf u s).pump.po = s.pump.po ∧ (withUnreadOf u s).pump.level = s.pump.level ∧
    (withUnreadOf u s).pump.pos = s.pump.pos ∧ (withUnreadOf u s).heater = s.heater ∧
    (withUnreadOf u s).valve = s.valve ∧ (withUnreadOf u s).pid = s.pid ∧
    (withUnreadOf u s).shot = s.shot ∧ (withUnreadOf u s).pre = s.pre ∧
    (withUnreadOf u s).wc = s.wc ∧ (withUnreadOf u s).sensors = s.sensors ∧
    (withUnreadOf u s).rsp = s.rsp ∧ (withUnreadOf u s).freeIdx = s.freeIdx := by
  simp [withUnreadOf]

/-- An operation that takes states which agree but for the unread registers to such states. -/
structure IgnoresUnread (f : State → State) : Prop where
  agree {s t : State} : AgreeButUnread s t → AgreeButUnread (f s) (f t)

namespace IgnoresUnread
variable {f g : State → State}

/-- It is enough to replace the unread registers of one state. -/
theorem of_withUnreadOf (h : ∀ u s, AgreeButUnread (f s) (f (withUnreadOf u s))) : IgnoresUnread f where
  agree {s t} hst := by
    rw [(agreeButUnread_iff s t).1 hst]
    exact h t s

/-- It is enough to look at the operation by its equation. -/
theorem of_equation (heq : ∀ s, f s = g s) (h : ∀ u s, AgreeButUnread (g s) (g (withUnreadOf u s))) :
    IgnoresUnread f :=
  funext heq ▸ of_withUnreadOf h

theorem comp (hf : IgnoresUnread f) (hg : IgnoresUnread g) : IgnoresUnread fun s => f (g s) :=
  ⟨fun h => hf.agree (hg.agree h)⟩

/-- A choice by a condition that reads none of the unread registers. -/
theorem choice {c : State → Prop} [∀ s, Decidable (c s)] (hc : ∀ u s, c (withUnreadOf u s) ↔ c s)
    (hf : IgnoresUnread f) (hg : IgnoresUnread g) : IgnoresUnread fun s => if c s then f s else g s := by
  refine of_withUnreadOf fun u s => ?_
  have hst := agreeButUnread_withUnreadOf u s
  simp only [hc]
  split
  · exact hf.agree hst
  · exact hg.agree hst

/-- An operation whose operand is read from the state, but not from the unread registers. -/
theorem operand {α : Type} {x : State → α} {f : α → State → State}
    (hx : ∀ u s, x (withUnreadOf u s) = x s) (hf : ∀ a, IgnoresUnread (f a)) :
    IgnoresUnread fun s => f (x s) s := by
  refine of_withUnreadOf fun u s => ?_
  rw [hx]
  exact (hf _).agree (agreeButUnread_withUnreadOf u s)

protected theorem id : IgnoresUnread fun s => s := ⟨fun h => h⟩

end IgnoresUnread

open IgnoresUnread

/-! ### Flags, ports and component commands -/

theorem raise_ignoresUnread (e : ErrFlag) : IgnoresUnread (raise e) := of_withUnreadOf fun _ _ => rfl

theorem illegalWord_ignoresUnread : IgnoresUnread illegalWord := raise_ignoresUnread .illegalCmd

theorem respond_ignoresUnread (r : Response) : IgnoresUnread (respond r) := of_withUnreadOf fun _ _ => rfl

theorem spend_ignoresUnread (w : Nat) (x : Int) : IgnoresUnread (spend w x) :=
  of_equation (spend_eq w x) fun _ _ => rfl

theorem componentOp_ignoresUnread {f : State → State} (hf : IgnoresUnread f) :
    IgnoresUnread fun s => componentOp s (f s) :=
  choice (fun _ _ => .rfl) hf illegalWord_ignoresUnread

/-! ### PhaseOutput and the setters -/

theorem poEnable_ignoresUnread (x : PoUnit) : IgnoresUnread (poEnable x) :=
  of_withUnreadOf fun _ _ => by cases x <;> rfl

theorem poDisable_ignoresUnread (x : PoUnit) : IgnoresUnread (poDisable x) :=
  of_withUnreadOf fun _ _ => by cases x <;> rfl

theorem poOn_ignoresUnread (x : PoUnit) : IgnoresUnread (poOn x) :=
  of_equation (poOn_eq x) fun _ _ => by cases x <;> rfl

theorem poOff_ignoresUnread (x : PoUnit) : IgnoresUnread (poOff x) :=
  of_withUnreadOf fun _ _ => by cases x <;> rfl

theorem onUnit_ignoresUnread (unit : BitVec 8) {f : PoUnit → State → State}
    (hf : ∀ x, IgnoresUnread (f x)) : IgnoresUnread (onUnit unit f) := by
  unfold onUnit
  split
  · exact hf _
  · exact illegalWord_ignoresUnread

theorem valveSet_ignoresUnread (v : Bool) : IgnoresUnread (valveSet v) :=
  of_equation (valveSet_eq v) fun _ _ => rfl

theorem pumpSetLevel_ignoresUnread (p : Percent) : IgnoresUnread (pumpSetLevel p) :=
  of_withUnreadOf fun _ _ => rfl

theorem heaterSetDuty_ignoresUnread (d : Nat) : IgnoresUnread (heaterSetDuty d) := by
  rcases le_or_gt d 100 with hd | hd
  · exact of_equation (heaterSetDuty_of_le hd) fun _ _ => rfl
  · exact of_equation (heaterSetDuty_of_gt hd) fun _ _ => rfl

/-! ### The PWM ticks -/

theorem heaterTick_ignoresUnread : IgnoresUnread heaterTick := of_withUnreadOf fun _ _ => rfl

/-- The stamp is written over `pump_last_on`, which nothing reads. -/
theorem pumpStamp_ignoresUnread : IgnoresUnread pumpStamp := of_withUnreadOf fun _ _ => rfl

theorem pumpSlot_ignoresUnread : IgnoresUnread pumpSlot :=
  choice (fun _ _ => .rfl) (pumpStamp_ignoresUnread.comp (poOn_ignoresUnread .pump)) (poOff_ignoresUnread .pump)

theorem pumpAdvance_ignoresUnread : IgnoresUnread pumpAdvance := of_withUnreadOf fun _ _ => rfl

theorem pumpTick_ignoresUnread : IgnoresUnread pumpTick :=
  choice (fun _ _ => .rfl) (pumpAdvance_ignoresUnread.comp pumpSlot_ignoresUnread) (poOff_ignoresUnread .pump)

/-! ### The controller -/

theorem pidStart_ignoresUnread : IgnoresUnread pidStart := of_equation pidStart_eq fun _ _ => rfl

theorem pidStop_ignoresUnread : IgnoresUnread pidStop := of_equation pidStop_eq fun _ _ => rfl

theorem pidSetTarget_ignoresUnread (x : Rat) (m : PidMode) : IgnoresUnread (pidSetTarget x m) :=
  of_withUnreadOf fun _ _ => rfl

theorem pidOverride_ignoresUnread (x : Rat) (n : BitVec 32) : IgnoresUnread (pidOverride x n) :=
  of_withUnreadOf fun _ _ => rfl

/-- What a publication writes is read by no rule, whatever it is. -/
theorem agreeButUnread_pidPublish {t t' : State} (h : AgreeButUnread t t') (pv : Rat) (s s' : State) :
    AgreeButUnread (pidPublish pv s t) (pidPublish pv s' t') := by
  rw [(agreeButUnread_iff t t').1 h]
  rfl

/-- A cycle writes the duty and the controller from the process value, and publishes. -/
theorem pidCycleAt_ignoresUnread (pv : Rat) : IgnoresUnread (pidCycleAt pv) := by
  have writeBack (x : Nat × Pid) : IgnoresUnread fun s => { heaterSetDuty x.1 s with pid := x.2 } :=
    (of_withUnreadOf fun _ _ => rfl : IgnoresUnread fun s => { s with pid := x.2 }).comp
      (heaterSetDuty_ignoresUnread x.1)
  refine of_withUnreadOf fun u s => ?_
  have hst := (writeBack (pidDuty pv s, pidWriteBack pv s)).agree (agreeButUnread_withUnreadOf u s)
  exact agreeButUnread_pidPublish hst pv s (withUnreadOf u s)

theorem pidCycle_ignoresUnread : IgnoresUnread pidCycle :=
  choice (fun _ _ => .rfl) (operand (fun _ _ => rfl) pidCycleAt_ignoresUnread) .id

/-! ### The Shot sequencer -/

theorem shotDisarm_ignoresUnread : IgnoresUnread shotDisarm := of_withUnreadOf fun _ _ => rfl

theorem shotEnter_ignoresUnread (g : ShotStage) : IgnoresUnread (shotEnter g) :=
  of_withUnreadOf fun _ _ => rfl

theorem shotLoad_ignoresUnread (f r z : Millis) (a b : Percent) : IgnoresUnread (shotLoad f r z a b) :=
  of_withUnreadOf fun _ _ => rfl

theorem shotActivate_ignoresUnread : IgnoresUnread shotActivate := of_withUnreadOf fun _ _ => rfl

theorem shotArmAt_ignoresUnread (x : Int) : IgnoresUnread (shotArmAt x) :=
  of_equation (shotArmAt_eq x) fun _ _ => rfl

theorem shotArm_ignoresUnread (delta : Int) : IgnoresUnread (shotArm delta) :=
  operand (x := fun s => (s.now.toNat : Int) + delta) (fun _ _ => by simp) shotArmAt_ignoresUnread

theorem shotAccept_ignoresUnread (f r z : Millis) (a b : Percent) : IgnoresUnread (shotAccept f r z a b) :=
  shotActivate_ignoresUnread.comp <| (shotArm_ignoresUnread f.toNat).comp <|
    (pumpSetLevel_ignoresUnread 100#8).comp <| (valveSet_ignoresUnread true).comp <|
    shotLoad_ignoresUnread f r z a b

theorem shotStart_ignoresUnread (f r z : Millis) (a b : Percent) : IgnoresUnread (shotStart f r z a b) :=
  choice (fun _ _ => by simp) .id
    (choice (fun _ _ => by simp) (shotAccept_ignoresUnread f r z a b) (raise_ignoresUnread .cfgReject))

theorem shotStop_ignoresUnread (p : Percent) (v : Bool) : IgnoresUnread (shotStop p v) :=
  choice (fun _ _ => by simp) ((valveSet_ignoresUnread v).comp <| (pumpSetLevel_ignoresUnread p).comp <|
    (of_withUnreadOf fun _ _ => rfl : IgnoresUnread shotDeactivate).comp shotDisarm_ignoresUnread) .id

theorem shotArmRamp_ignoresUnread : IgnoresUnread shotArmRamp :=
  operand (fun _ _ => rfl) shotArm_ignoresUnread

theorem shotSetCur_ignoresUnread (x : Int) : IgnoresUnread (shotSetCur x) :=
  of_equation (shotSetCur_eq x) fun _ _ => rfl

theorem shotEnterFull_ignoresUnread : IgnoresUnread shotEnterFull :=
  of_equation shotEnterFull_eq fun _ _ => rfl

theorem shotEnterPause_ignoresUnread (delta : Int) :
    IgnoresUnread fun s => shotArm delta (shotEnter .pause (pumpSetLevel 0#8 s)) :=
  (shotArm_ignoresUnread delta).comp <| (shotEnter_ignoresUnread .pause).comp <|
    pumpSetLevel_ignoresUnread 0#8

theorem shotAfterRamp_ignoresUnread : IgnoresUnread shotAfterRamp :=
  choice (fun _ _ => by simp)
    (operand (x := fun s => (s.shot.pauseMs.toNat : Int)) (fun _ _ => by simp)
      shotEnterPause_ignoresUnread :)
    shotEnterFull_ignoresUnread

/-- The level and the first ramp percent of the INIT_FILL arm are both read before its first write. -/
theorem shotFireInitFill_ignoresUnread : IgnoresUnread shotFireInitFill := by
  have enterRamp (x : Percent × Int) :
      IgnoresUnread fun s => shotArmRamp (shotEnter .ramp (shotSetCur x.2 (pumpSetLevel x.1 s))) :=
    shotArmRamp_ignoresUnread.comp <| (shotEnter_ignoresUnread .ramp).comp <|
      (shotSetCur_ignoresUnread x.2).comp <| pumpSetLevel_ignoresUnread x.1
  exact (operand (x := fun s => (s.shot.startPct, (s.shot.startPct.toNat : Int) + s.cfg.rampFirstOffset))
    (fun _ _ => by simp) enterRamp :)

theorem shotStepOverride_ignoresUnread : IgnoresUnread shotStepOverride :=
  choice (fun _ _ => by simp) (pidOverride_ignoresUnread _ _) .id

theorem shotStepCur_ignoresUnread : IgnoresUnread shotStepCur :=
  operand (fun _ _ => rfl) shotSetCur_ignoresUnread

theorem shotRampStep_ignoresUnread : IgnoresUnread shotRampStep :=
  shotArmRamp_ignoresUnread.comp <| shotStepCur_ignoresUnread.comp <| shotStepOverride_ignoresUnread.comp <|
    operand (fun _ _ => rfl) pumpSetLevel_ignoresUnread

theorem shotFireRamp_ignoresUnread : IgnoresUnread shotFireRamp :=
  choice (fun _ _ => by simp) shotAfterRamp_ignoresUnread shotRampStep_ignoresUnread

theorem shotFireStage_ignoresUnread : IgnoresUnread shotFireStage := by
  refine of_withUnreadOf fun u s => ?_
  have hst := agreeButUnread_withUnreadOf u s
  simp only [shotFireStage, withUnreadOf_keeps]
  split
  · exact shotFireInitFill_ignoresUnread.agree hst
  · exact shotFireRamp_ignoresUnread.agree hst
  · exact shotEnterFull_ignoresUnread.agree hst
  · exact hst
  · exact hst

theorem shotTimerFire_ignoresUnread : IgnoresUnread shotTimerFire :=
  choice (fun _ _ => by simp) (shotFireStage_ignoresUnread.comp shotDisarm_ignoresUnread)
    shotDisarm_ignoresUnread

/-- The shot time is answered alike, and the states after it agree still. -/
theorem getShotTime_agree (u s : State) :
    AgreeButUnread (getShotTime s).1 (getShotTime (withUnreadOf u s)).1 ∧
      (getShotTime (withUnreadOf u s)).2 = (getShotTime s).2 := by
  have hst := agreeButUnread_withUnreadOf u s
  have hrun : shotRunning (withUnreadOf u s) = shotRunning s := by simp [shotRunning]
  unfold getShotTime
  rw [hrun]
  simp only [withUnreadOf_keeps]
  repeat' split
  · exact ⟨hst, rfl⟩
  · exact ⟨(spend_ignoresUnread 64 _).agree hst, rfl⟩
  · exact ⟨(raise_ignoresUnread .shotTime).agree hst, rfl⟩
  · exact ⟨hst, rfl⟩

theorem qShotTime_ignoresUnread :
    IgnoresUnread fun s => respond (.word (getShotTime s).2) (getShotTime s).1 := by
  refine of_withUnreadOf fun u s => ?_
  obtain ⟨hst, hword⟩ := getShotTime_agree u s
  rw [hword]
  exact (respond_ignoresUnread _).agree hst

/-! ### The Preheat sequencer -/

theorem preDisarm_ignoresUnread : IgnoresUnread preDisarm := of_withUnreadOf fun _ _ => rfl

theorem preEnter_ignoresUnread (g : PreStage) : IgnoresUnread (preEnter g) := of_withUnreadOf fun _ _ => rfl

theorem preLoad_ignoresUnread (a b c : Millis) : IgnoresUnread (preLoad a b c) :=
  of_withUnreadOf fun _ _ => rfl

theorem preArmAt_ignoresUnread (x : Int) : IgnoresUnread (preArmAt x) :=
  of_equation (preArmAt_eq x) fun _ _ => rfl

theorem preArm_ignoresUnread (delta : Millis) : IgnoresUnread (preArm delta) :=
  operand (x := fun s => (s.now.toNat : Int) + delta.toNat) (fun _ _ => by simp) preArmAt_ignoresUnread

/-- A stage is entered with its outputs set and its timer armed for a stored duration. -/
theorem preArm_preEnter_ignoresUnread {x : State → Millis} (hx : ∀ u s, x (withUnreadOf u s) = x s)
    (g : PreStage) {f : State → State} (hf : IgnoresUnread f) :
    IgnoresUnread fun s => preArm (x s) (preEnter g (f s)) := by
  have enter (d : Millis) : IgnoresUnread fun s => preArm d (preEnter g (f s)) :=
    (preArm_ignoresUnread d).comp <| (preEnter_ignoresUnread g).comp hf
  exact (operand hx enter :)

theorem preheatEnterPumpOn_ignoresUnread : IgnoresUnread preheatEnterPumpOn :=
  preArm_preEnter_ignoresUnread (x := fun s => s.pre.pumpMs) (fun _ _ => by simp) .pumpOn <|
    (pumpSetLevel_ignoresUnread 100#8).comp <| valveSet_ignoresUnread true

theorem preRest_ignoresUnread : IgnoresUnread preRest :=
  (valveSet_ignoresUnread false).comp <| pumpSetLevel_ignoresUnread 0#8

theorem preFirePumpOn_ignoresUnread : IgnoresUnread preFirePumpOn :=
  preArm_preEnter_ignoresUnread (x := fun s => s.pre.stopPumpMs) (fun _ _ => by simp) .hold
    preRest_ignoresUnread

theorem preFireHold_ignoresUnread : IgnoresUnread preFireHold :=
  preArm_preEnter_ignoresUnread (x := fun s => s.pre.pauseMs) (fun _ _ => by simp) .pause
    preRest_ignoresUnread

theorem preFireStage_ignoresUnread : IgnoresUnread preFireStage := by
  refine of_withUnreadOf fun u s => ?_
  have hst := agreeButUnread_withUnreadOf u s
  simp only [preFireStage, withUnreadOf_keeps]
  split
  · exact preFirePumpOn_ignoresUnread.agree hst
  · exact preFireHold_ignoresUnread.agree hst
  · exact preheatEnterPumpOn_ignoresUnread.agree hst
  · exact hst

theorem preheatTimerFire_ignoresUnread : IgnoresUnread preheatTimerFire :=
  preFireStage_ignoresUnread.comp preDisarm_ignoresUnread

theorem preheatStart_ignoresUnread (a b c : Millis) : IgnoresUnread (preheatStart a b c) :=
  choice (fun _ _ => by simp) .id
    (choice (fun _ _ => by simp) (preheatEnterPumpOn_ignoresUnread.comp (preLoad_ignoresUnread a b c))
      (raise_ignoresUnread .cfgReject))

theorem preheatStop_ignoresUnread (p : Percent) (v : Bool) : IgnoresUnread (preheatStop p v) :=
  (valveSet_ignoresUnread v).comp <| (pumpSetLevel_ignoresUnread p).comp <|
    (preEnter_ignoresUnread .off).comp preDisarm_ignoresUnread

/-! ### WaterControl -/

theorem wcStop_ignoresUnread (p : Percent) (v : Bool) (m : WcMode) : IgnoresUnread (wcStop p v m) :=
  of_equation (wcStop_eq p v m) fun _ _ => rfl

theorem setOverride_ignoresUnread (p : Percent) (durationMs : Millis) :
    IgnoresUnread fun s => { s with wc := { s.wc with
      ovrActive := true, ovrPercent := p, ovrTotalMs := durationMs, ovrActiveMs := s.now } } :=
  of_withUnreadOf fun _ _ => rfl

theorem enableUnits_ignoresUnread : IgnoresUnread enableUnits := of_withUnreadOf fun _ _ => rfl

theorem disableUnits_ignoresUnread : IgnoresUnread disableUnits := of_withUnreadOf fun _ _ => rfl

theorem brewTarget_ignoresUnread : IgnoresUnread brewTarget := of_withUnreadOf fun _ _ => rfl

theorem flowKeepStop_ignoresUnread (m : WcMode) : IgnoresUnread (flowKeepStop m) :=
  wcStop_ignoresUnread _ _ m

theorem steam_ignoresUnread (p : Percent) (v : Bool) : IgnoresUnread fun s =>
    pidSetTarget s.cfg.steamTemp .steam (valveSet v (pumpSetLevel p (flowKeepStop .steam s))) := by
  have retarget (x : Rat) : IgnoresUnread fun s =>
      pidSetTarget x .steam (valveSet v (pumpSetLevel p (flowKeepStop .steam s))) :=
    (pidSetTarget_ignoresUnread x .steam).comp <| (valveSet_ignoresUnread v).comp <|
      (pumpSetLevel_ignoresUnread p).comp <| flowKeepStop_ignoresUnread .steam
  exact (operand (x := fun s => s.cfg.steamTemp) (fun _ _ => rfl) retarget :)

/-- The configured arguments are parameters. -/
theorem shotStartConfigured_ignoresUnread : IgnoresUnread shotStartConfigured :=
  operand (x := State.cfg) (fun _ _ => rfl) fun c =>
    shotStart_ignoresUnread c.shotInitFillMs c.shotRampMs c.shotPauseMs c.shotStartPct c.shotStopPct

theorem preheatStartConfigured_ignoresUnread : IgnoresUnread preheatStartConfigured :=
  operand (x := State.cfg) (fun _ _ => rfl) fun c =>
    preheatStart_ignoresUnread c.prePumpMs c.preStopPumpMs c.prePauseMs

/-! ### The time base -/

theorem runHeaterTick_ignoresUnread : IgnoresUnread runHeaterTick :=
  choice (fun _ _ => by simp) heaterTick_ignoresUnread .id

theorem runPumpTick_ignoresUnread : IgnoresUnread runPumpTick := by
  rw [funext runPumpTick_eq]
  exact choice (fun _ _ => by simp) pumpTick_ignoresUnread .id

theorem runTicks_ignoresUnread : IgnoresUnread runTicks :=
  runPumpTick_ignoresUnread.comp runHeaterTick_ignoresUnread

theorem runPidPeriod_ignoresUnread : IgnoresUnread runPidPeriod :=
  choice (fun _ _ => by simp) pidCycle_ignoresUnread .id

theorem advanceClock_ignoresUnread : IgnoresUnread advanceClock := of_withUnreadOf fun _ _ => rfl

theorem dues_of_agree {s t : State} (h : AgreeButUnread s t) :
    shotDue t = shotDue s ∧ preDue t = preDue s := by
  rw [(agreeButUnread_iff s t).1 h]
  simp [shotDue, preDue]

/-- The loop of 47_time_and_queries.md R242 fires the same timers in both states, so it ends in both or in
neither. -/
theorem runDueTimers_agree {n : Nat} {s t : State} (h : AgreeButUnread s t) :
    Option.Rel AgreeButUnread (runDueTimers n s) (runDueTimers n t) := by
  induction n generalizing s t with
  | zero =>
    obtain ⟨hshot, hpre⟩ := dues_of_agree h
    simp only [runDueTimers, hshot, hpre]
    split
    · exact .none
    · exact .some h
  | succ n ih =>
    obtain ⟨hshot, hpre⟩ := dues_of_agree h
    simp only [runDueTimers, hshot, hpre]
    repeat' split
    · exact ih (shotTimerFire_ignoresUnread.agree h)
    · exact ih (preheatTimerFire_ignoresUnread.agree h)
    · exact .some h

/-! ### Every command but `Q_STATUS` -/

/-- Two outcomes that differ in the unread registers of a next state at most. -/
inductive EndsAlike : Host.Outcome State Fault Refusal → Host.Outcome State Fault Refusal → Prop where
  | next {t t' : State} (h : AgreeButUnread t t') : EndsAlike (.next t) (.next t')
  | fault (r : Fault) : EndsAlike (.fault r) (.fault r)
  | refused (r : Refusal) : EndsAlike (.refused r) (.refused r)

namespace EndsAlike
variable {o : Host.Outcome State Fault Refusal}

theorem exists_next {t : State} (h : EndsAlike (.next t) o) :
    ∃ t', o = .next t' ∧ AgreeButUnread t t' := by
  cases h with
  | next h => exact ⟨_, rfl, h⟩

theorem eq_fault {r : Fault} (h : EndsAlike (.fault r) o) : o = .fault r := by
  cases h
  rfl

theorem eq_refused {r : Refusal} (h : EndsAlike (.refused r) o) : o = .refused r := by
  cases h
  rfl

end EndsAlike

/-- `TICK_MS` is refused, faults or ends alike, as the clock and the loop of due timers do. -/
theorem execTickMs_endsAlike {s t : State} (h : AgreeButUnread s t) :
    EndsAlike (execTickMs s) (execTickMs t) := by
  have hnow : t.now = s.now := by rw [(agreeButUnread_iff s t).1 h]; simp
  have hloop := runDueTimers_agree (n := timerFires)
    ((runTicks_ignoresUnread.comp advanceClock_ignoresUnread).agree h)
  simp only [execTickMs, hnow]
  split
  · exact .refused _
  · generalize runDueTimers timerFires (runTicks (advanceClock s)) = o at hloop ⊢
    generalize runDueTimers timerFires (runTicks (advanceClock t)) = o' at hloop ⊢
    cases hloop with
    | none => exact .fault _
    | some hst => exact .next (runPidPeriod_ignoresUnread.agree hst)

/-- `Q_STATUS` alone reads an unread register, the error flags. -/
theorem exec_endsAlike {i : Instr} (hi : i ≠ .qStatus) {s t : State} (h : AgreeButUnread s t) :
    EndsAlike (exec i s) (exec i t) := by
  have next {f : State → State} (hf : IgnoresUnread f) : EndsAlike (.next (f s)) (.next (f t)) :=
    .next (hf.agree h)
  have answer {r : State → Response} (hr : ∀ u s, r (withUnreadOf u s) = r s) :
      EndsAlike (.next (respond (r s) s)) (.next (respond (r t) t)) :=
    next (operand hr respond_ignoresUnread)
  have start {m : WcMode} {f : State → State} (hf : IgnoresUnread f) :
      EndsAlike (.next (if s.wc.mode = m then s else f s)) (.next (if t.wc.mode = m then t else f t)) :=
    next (choice (c := fun s => s.wc.mode = m) (fun _ _ => by simp) .id hf)
  have component {f : State → State} (hf : IgnoresUnread f) := next (componentOp_ignoresUnread hf)
  cases i with
  | qStatus => exact absurd rfl hi
  | nop => exact next .id
  | wcEnable =>
    exact next <| enableUnits_ignoresUnread.comp <| pidStart_ignoresUnread.comp <|
      brewTarget_ignoresUnread.comp <| wcStop_ignoresUnread _ _ _
  | wcDisable =>
    exact next <| disableUnits_ignoresUnread.comp <| pidStop_ignoresUnread.comp <|
      wcStop_ignoresUnread _ _ _
  | wcStartPump percent valve =>
    exact next <| brewTarget_ignoresUnread.comp <| wcStop_ignoresUnread _ _ _
  | wcStartShot =>
    exact start <| shotStartConfigured_ignoresUnread.comp <|
      brewTarget_ignoresUnread.comp <| flowKeepStop_ignoresUnread .shot
  | wcStartPreheat =>
    exact start <| preheatStartConfigured_ignoresUnread.comp <|
      brewTarget_ignoresUnread.comp <| flowKeepStop_ignoresUnread .preheat
  | wcStartSteam percent valve =>
    exact start <| steam_ignoresUnread percent valve
  | wcOverridePump percent durationMs =>
    exact next <| (pumpSetLevel_ignoresUnread percent).comp <| setOverride_ignoresUnread percent durationMs
  | wcStop percent valve mode =>
    simp only [exec, execWcStop]
    split
    · exact next (wcStop_ignoresUnread _ _ _)
    · exact next illegalWord_ignoresUnread
  | qShotTime => exact next qShotTime_ignoresUnread
  | qPidP => exact answer (r := fun s => .rational s.pid.p) fun _ _ => by simp
  | qPidI => exact answer (r := fun s => .rational s.pid.i) fun _ _ => by simp
  | qPidD => exact answer (r := fun s => .rational s.pid.d) fun _ _ => by simp
  | qPidU => exact answer (r := fun s => .rational s.pid.u) fun _ _ => by simp
  | qPumpDuty =>
    exact answer (r := fun s => .word (BitVec.ofNat 64 (levelPercent s.pump.level))) fun _ _ => by simp
  | tickMs => exact execTickMs_endsAlike h
  | poEnable unit => exact component (onUnit_ignoresUnread unit poEnable_ignoresUnread)
  | poDisable unit => exact component (onUnit_ignoresUnread unit poDisable_ignoresUnread)
  | poOn unit => exact component (onUnit_ignoresUnread unit poOn_ignoresUnread)
  | poOff unit => exact component (onUnit_ignoresUnread unit poOff_ignoresUnread)
  | pumpSetLevel percent => exact component (pumpSetLevel_ignoresUnread _)
  | pumpTick => exact component pumpTick_ignoresUnread
  | heaterSetDuty percent => exact component (heaterSetDuty_ignoresUnread _)
  | heaterTick => exact component heaterTick_ignoresUnread
  | pidStart => exact component pidStart_ignoresUnread
  | pidStop => exact component pidStop_ignoresUnread
  | pidSetTarget temp steam => exact component (pidSetTarget_ignoresUnread _ _)
  | pidOverride value cycles => exact component (pidOverride_ignoresUnread _ _)
  | pidCycle => exact component pidCycle_ignoresUnread
  | shotStart initFillMs rampMs pauseMs startPct stopPct =>
    exact component (shotStart_ignoresUnread _ _ _ _ _)
  | shotStop percent valve => exact component (shotStop_ignoresUnread _ _)
  | preheatStart pumpMs stopPumpMs pauseMs => exact component (preheatStart_ignoresUnread _ _ _)
  | preheatStop percent valve => exact component (preheatStop_ignoresUnread _ _)

/-! ### The obligation -/

/-- Settles O57: what `EndsAlike` says of the second outcome in each case of the first. -/
theorem unreadStateHasNoInfluence : Obligations.UnreadStateHasNoInfluence := by
  intro i s s' hi h
  have hends := exec_endsAlike hi h
  refine ⟨fun t ht => ?_, fun r hr => ?_, fun r hr => ?_⟩
  · rw [ht] at hends
    exact hends.exists_next
  · rw [hr] at hends
    exact hends.eq_fault
  · rw [hr] at hends
    exact hends.eq_refused

end Sys2Proof.Machine
end

section
/-! PROOFS. The causes of an error (spec/60_exceptions.md R260, R272), the reset input
(70_reset_and_hazards.md R290) and the machine after it (R291). A command that changes the error flags sets
one of them, for the cause that the table of R260 names. -/

namespace Sys2Proof.Machine
open Sys2Proof.Spec

/-! ### The causes (R260) -/

/-- A start is rejected: one commanded of an idle sequencer, or one by WaterControl in another mode, with
arguments out of bounds (44_shot.md R176, 45_preheat.md R200). -/
def RejectCause (i : Instr) (s : State) : Prop :=
  (s.shot.active = false ∧ ∃ f r z a b, i = .shotStart f r z a b ∧ ShotArgsOut f r z a b) ∨
  (s.pre.stage = .off ∧ ∃ a b c, i = .preheatStart a b c ∧ PreArgsOut a b c) ∨
  (i = .wcStartShot ∧ s.wc.mode ≠ .shot ∧
    ShotArgsOut s.cfg.shotInitFillMs s.cfg.shotRampMs s.cfg.shotPauseMs s.cfg.shotStartPct
      s.cfg.shotStopPct) ∨
  (i = .wcStartPreheat ∧ s.wc.mode ≠ .preheat ∧
    PreArgsOut s.cfg.prePumpMs s.cfg.preStopPumpMs s.cfg.prePauseMs)

/-- The cause of each flag in a command `i` run in `s`. -/
def ErrorCause (i : Instr) (s : State) : ErrFlag → Prop
  | .heaterRange => ∃ p : Percent, i = .heaterSetDuty p ∧ p.toNat > 100
  | .cfgReject => RejectCause i s
  | .shotTime => i = .qShotTime ∧ s.shot.stopTime.toNat < s.shot.startTime.toNat ∧ ¬ RegInv s
  | .illegalCmd => (i.isComponent = true ∧ s.cfg.componentPort = false) ∨ i.wellFormed = false

/-- The flags `g` are the flags `f`, or `f` with one more set that has a cause. -/
def RaisedFor (C : ErrFlag → Prop) (f g : Errors) : Prop := g = f ∨ ∃ e, C e ∧ g = setFlag e f

/-- A flag is set after a command because it was set before or because its cause is there. -/
theorem RaisedFor.cause {C : ErrFlag → Prop} {f g : Errors} (h : RaisedFor C f g) {e : ErrFlag}
    (hg : getFlag e g = true) : getFlag e f = true ∨ C e := by
  obtain rfl | ⟨e', he', rfl⟩ := h
  · exact .inl hg
  · rw [getFlag_setFlag, Bool.or_eq_true, decide_eq_true_iff] at hg
    obtain rfl | hf := hg
    · exact .inr he'
    · exact .inl hf

section Causes
variable {s : State} {i : Instr}

/-! ### Operations that can raise a flag -/

theorem unitOf?_eq_none {unit : BitVec 8} (h : unitOf? unit = none) : ¬ unit.toNat ≤ 2 := by
  intro hle
  obtain hu | hu | hu : unit.toNat = 0 ∨ unit.toNat = 1 ∨ unit.toNat = 2 := by omega
  all_goals simp [unitOf?, hu] at h

theorem wcModeOf?_eq_none : ∀ {mode : BitVec 3}, wcModeOf? mode = none → ¬ mode.toNat ≤ 5 := by decide

theorem onUnit_raisedFor {C : ErrFlag → Prop} {unit : BitVec 8} {f : PoUnit → State → State}
    (hf : ∀ x, (f x s).err = s.err) (hC : ¬ unit.toNat ≤ 2 → C .illegalCmd) :
    RaisedFor C s.err (onUnit unit f s).err := by
  unfold onUnit
  split
  · exact .inl (hf _)
  · rename_i hu
    exact .inr ⟨.illegalCmd, hC (unitOf?_eq_none hu), rfl⟩

theorem shotStart_raisedFor {C : ErrFlag → Prop} {f r z : Millis} {a b : Percent}
    (hC : s.shot.active = false → ShotArgsOut f r z a b → C .cfgReject) :
    RaisedFor C s.err (shotStart f r z a b s).err := by
  rcases shotStart_cases f r z a b s with ⟨-, e⟩ | ⟨-, -, e⟩ | ⟨hidle, hlegal, e⟩ <;> rw [e]
  · exact .inl rfl
  · exact .inl (by simp)
  · exact .inr ⟨.cfgReject, hC hidle (shotArgsOut_iff.2 hlegal), rfl⟩

theorem preheatStart_raisedFor {C : ErrFlag → Prop} {a b c : Millis}
    (hC : s.pre.stage = .off → PreArgsOut a b c → C .cfgReject) :
    RaisedFor C s.err (preheatStart a b c s).err := by
  rcases preheatStart_cases a b c s with ⟨-, e⟩ | ⟨-, -, e⟩ | ⟨hidle, hlegal, e⟩ <;> rw [e]
  · exact .inl rfl
  · exact .inl (by simp)
  · exact .inr ⟨.cfgReject, hC hidle (preArgsOut_iff.2 hlegal), rfl⟩

/-- A shot that stopped before it began to flow breaks the invariant of its stamps (44_shot.md R184). -/
theorem getShotTime_raisedFor (s : State) :
    RaisedFor (ErrorCause .qShotTime s) s.err (getShotTime s).1.err := by
  by_cases hstart : s.shot.startTime = 0
  · rw [getShotTime_of_unstarted hstart]; exact .inl rfl
  by_cases hstop : s.shot.stopTime = 0
  · rw [getShotTime_of_running hstart hstop]; exact .inl (by simp)
  by_cases hlt : s.shot.stopTime.toNat < s.shot.startTime.toNat
  · rw [getShotTime_of_disordered hstart hstop hlt]
    have hbroken : ¬ RegInv s := fun h => absurd (h.timesOrdered hstop) (by omega)
    exact .inr ⟨.shotTime, ⟨rfl, hlt, hbroken⟩, rfl⟩
  · rw [getShotTime_of_stopped hstart hstop (by omega)]; exact .inl rfl

/-- With legal parameters the duty of a cycle is in range (43_pid.md R162). -/
theorem pidCycle_err (hc : s.cfg.Legal) : (pidCycle s).err = s.err := by
  obtain ⟨d, e⟩ := pidCycle_frame hc
  rw [e]

theorem runPidPeriod_err (hc : s.cfg.Legal) : (runPidPeriod s).err = s.err := by
  unfold runPidPeriod
  split
  · exact pidCycle_err hc
  · rfl

/-- With legal parameters no event of a millisecond raises a flag. -/
theorem execTickMs_err (hc : s.cfg.Legal) {t : State} (ht : execTickMs s = .next t) : t.err = s.err := by
  obtain ⟨-, u, hu, rfl⟩ := execTickMs_next ht
  obtain ⟨hcfg, -, -, -⟩ := runDueTimers_keeps hu
  rw [runPidPeriod_err (by simpa [hcfg] using hc), runDueTimers_err hu]
  simp

/-- With legal parameters a command raises a flag for its cause alone. -/
theorem exec_raisedFor (hc : s.cfg.Legal) (i : Instr) :
    NextSatisfies (fun t => RaisedFor (ErrorCause i s) s.err t.err) (exec i s) := by
  have next {t : State} (ht : RaisedFor (ErrorCause i s) s.err t.err) :
      NextSatisfies (fun t => RaisedFor (ErrorCause i s) s.err t.err) (.next t) := nextSatisfies_next ht
  have quiet {t : State} (ht : t.err = s.err) := next (.inl ht)
  have component (hi : i.isComponent = true) {t : State} (ht : RaisedFor (ErrorCause i s) s.err t.err) :
      NextSatisfies (fun t => RaisedFor (ErrorCause i s) s.err t.err) (.next (componentOp s t)) := by
    rcases componentOp_cases s t with ⟨-, e⟩ | ⟨hport, e⟩ <;> rw [e]
    · exact next ht
    · exact next (.inr ⟨.illegalCmd, .inl ⟨hi, hport⟩, rfl⟩)
  cases i with
  | nop | wcOverridePump | qPidP | qPidI | qPidD | qPidU | qPumpDuty | qStatus => exact quiet rfl
  | wcEnable => exact quiet (by simp [pidStart_eq])
  | wcDisable => exact quiet (by simp [pidStop_eq])
  | wcStartPump percent valve => exact quiet (by simp)
  | wcStartShot =>
    by_cases hm : s.wc.mode = .shot
    · exact quiet (by simp [hm])
    · rw [exec_wcStartShot_of_mode_ne hm]
      have hstop : (brewTarget (flowKeepStop .shot s)).err = s.err := by simp
      rw [← hstop]
      exact nextSatisfies_next (shotStart_raisedFor fun _ hout => .inr (.inr (.inl ⟨rfl, hm, hout⟩)))
  | wcStartPreheat =>
    by_cases hm : s.wc.mode = .preheat
    · exact quiet (by simp [hm])
    · rw [exec_wcStartPreheat_of_mode_ne hm]
      have hstop : (brewTarget (flowKeepStop .preheat s)).err = s.err := by simp
      rw [← hstop]
      exact nextSatisfies_next (preheatStart_raisedFor fun _ hout => .inr (.inr (.inr ⟨rfl, hm, hout⟩)))
  | wcStartSteam percent valve =>
    refine quiet ?_
    split <;> simp
  | wcStop percent valve mode =>
    refine next ?_
    split
    · exact .inl (by simp)
    · rename_i hmode
      exact .inr ⟨.illegalCmd, .inr (decide_eq_false (wcModeOf?_eq_none hmode)), rfl⟩
  | qShotTime => exact next (getShotTime_raisedFor s)
  | tickMs => exact fun _ ht => .inl (execTickMs_err hc ht)
  | poEnable | poDisable | poOn | poOff =>
    exact component rfl (onUnit_raisedFor (by simp) fun hu => .inr (decide_eq_false hu))
  | heaterSetDuty percent =>
    refine component rfl ?_
    rcases le_or_gt percent.toNat 100 with hd | hd
    · rw [heaterSetDuty_of_le hd]; exact .inl rfl
    · rw [heaterSetDuty_of_gt hd]; exact .inr ⟨.heaterRange, ⟨percent, rfl, hd⟩, rfl⟩
  | pumpSetLevel | heaterTick | pidSetTarget | pidOverride => exact component rfl (.inl rfl)
  | pumpTick | shotStop | preheatStop => exact component rfl (.inl (by simp))
  | pidStart => exact component rfl (.inl (by simp [pidStart_eq]))
  | pidStop => exact component rfl (.inl (by simp [pidStop_eq]))
  | pidCycle => exact component rfl (.inl (pidCycle_err hc))
  | shotStart f r z a b =>
    exact component rfl (shotStart_raisedFor fun hidle hout =>
      .inl ⟨hidle, f, r, z, a, b, rfl, hout⟩)
  | preheatStart a b c =>
    exact component rfl (preheatStart_raisedFor fun hidle hout =>
      .inr (.inl ⟨hidle, a, b, c, rfl, hout⟩))

end Causes

/-! ### A disabled machine (R291) -/

section Disabled
variable {s : State}

/-- A tick of a disabled heater that is off moves its position alone (42_heater_pwm.md R136). -/
theorem heaterTick_of_off (h : s.heater.po = ⟨false, false⟩) :
    heaterTick s = { s with heater := { s.heater with pos := (heaterTick s).heater.pos } } := by
  simp [heaterTick, h]

/-- A tick of a disabled pump that is off changes nothing (41_pump_pwm.md R123). -/
theorem pumpTick_of_off (h : s.pump.po = ⟨false, false⟩) : pumpTick s = s := by
  rw [pumpTick_of_disabled (by rw [h]), ← h]

theorem runHeaterTick_of_off (h : s.heater.po = ⟨false, false⟩) :
    runHeaterTick s = { s with heater := { s.heater with pos := (runHeaterTick s).heater.pos } } := by
  unfold runHeaterTick
  split
  · exact heaterTick_of_off h
  · rfl

theorem runPumpTick_of_off (h : s.pump.po = ⟨false, false⟩) : runPumpTick s = s := by
  rw [runPumpTick_eq, pumpTick_of_off h, ite_self]

theorem runHeaterTick_pos (s : State) : (runHeaterTick s).heater.pos.val =
    if s.now.toNat % 10 = 0 then (s.heater.pos.val + 1) % 100 else s.heater.pos.val := by
  unfold runHeaterTick
  split <;> rename_i hn
  · exact (if_pos hn).symm
  · exact (if_neg hn).symm

/-- With both timers disarmed and the controller disabled, a millisecond is its ticks. -/
theorem execTickMs_of_disarmed (hend : s.now.toNat + 1 < 2 ^ 64) (hpid : s.pid.en = false)
    (hshot : s.shot.timer.armed = false) (hpre : s.pre.timer.armed = false) :
    execTickMs s = .next (runTicks (advanceClock s)) := by
  have hquiet := runDueTimers_of_quiet (s := runTicks (advanceClock s)) (by simp [shotDue, hshot])
    (by simp [preDue, hpre]) timerFires
  rw [execTickMs_of_settled hend hquiet, runPidPeriod_of_not (by simp [hpid])]

end Disabled

/-! ### The obligations -/

/-- Settles O55: the cause of each flag, for the one flag a command raises. -/
theorem onlyTheNamedCausesRaiseErrors : Obligations.OnlyTheNamedCausesRaiseErrors := by
  intro i s t hc ht
  have hraised := exec_raisedFor hc i t ht
  exact ⟨hraised.cause (e := .heaterRange), hraised.cause (e := .cfgReject),
    hraised.cause (e := .shotTime), hraised.cause (e := .illegalCmd)⟩

/-- Settles O9: the illegal word sets its flag and changes nothing else. -/
theorem componentCommandsNeedThePort : Obligations.ComponentCommandsNeedThePort :=
  fun _ _ hi hport => exec_component_of_closed hi hport

/-- Settles O2: the strobe is the reset input. -/
theorem resetInputRestoresTheResetRegisters : Obligations.ResetInputRestoresTheResetRegisters := by
  intro s rest hf
  rw [step, fetch_of_feed hf]
  rfl

/-- Settles O60: the millisecond is its ticks, of which the heater's moves its position. -/
theorem disabledMachineOnlyCountsTime : Obligations.DisabledMachineOnlyCountsTime := by
  intro s hend hoff hpid hshot hpre
  have hpump : s.pump.po = ⟨false, false⟩ := hoff .pump
  have hticks : runTicks (advanceClock s) = runHeaterTick (advanceClock s) :=
    runPumpTick_of_off (by simpa using hpump)
  have hheater := runHeaterTick_of_off (s := advanceClock s) (hoff .heater)
  refine ⟨(runHeaterTick (advanceClock s)).heater.pos, ?_, ?_⟩
  · rw [runHeaterTick_pos, advanceClock_now hend]
    rfl
  · rw [exec, execTickMs_of_disarmed hend hpid hshot hpre, hticks, hheater]
    rfl

end Sys2Proof.Machine
end
